-- ==== Sys2Proof/Word.lean ====
section
/-! DEFINITION. The plain value types of the FN-44: bytes, register words, and the small numbered sets of the manual's
figures table (spec/00_scope.md, "The figures of the part"). Values that are only compared or used as an index are `Fin`;
values whose bits software or the span sees are bit vectors. -/

namespace Sys2Proof

/-- One byte of a frame or of staging memory. -/
abbrev Byte := BitVec 8

/-- One 16-bit register word of the host port (R187). -/
abbrev Word := BitVec 16

/-- A station number, 0 to 31. -/
abbrev StationNo := Fin 32

/-- An urgency or a wake level, 0 to 7, 7 highest. -/
abbrev Urgency := Fin 8

/-- A slot number, which is a transaction's tag (R19). -/
abbrev Tag := Fin 8

/-- A generation, 0 to 15 (R7). -/
abbrev Generation := Fin 16

/-- An entry number of the context table or of the window table. -/
abbrev EntryNo := Fin 8

/-- The rate code that RATE[1:0] carries (R128). -/
abbrev RateCode := Fin 4

end Sys2Proof
end

