-- ==== Sys2Proof/Syntax.lean ====
section
/-! DEFINITION. The commands and events of the FN-44, one constructor per row of spec/opcode_table.json, with the operands
each row takes from outside the part. Rows whose outcome the part decides from its own state have no operand. -/

namespace Sys2Proof

/-- The two byte strobes of a host access (R187, R191). -/
structure Lanes where
  low  : Bool
  high : Bool
  deriving DecidableEq, Repr

/-- The two levels of the span line: dominant is 0 and recessive is 1 (R127). -/
inductive Level where
  | dominant
  | recessive
  deriving DecidableEq, Repr

/-- A frame heard on the line, as the characters of R127: its bytes in order, and whether its last character had a dominant
stop bit (a framing error, at which the frame ends). Sys2Proof.Machine.hearLine gives the frame of a run of levels. -/
structure Heard where
  bytes        : List Byte
  framingError : Bool
  deriving DecidableEq, Repr

/-- The termination signals a device asserts together (R116): TACK with its width code, TERR, TRTY, and the four byte lanes of
the data lines, lane 0 in bits 7 to 0. -/
structure Termination where
  tack : Option (BitVec 2)
  terr : Bool
  trty : Bool
  data : BitVec 32
  deriving DecidableEq, Repr

/-- The strap pins that RESETN samples: the station number and the rate code (R160, R128). -/
structure Straps where
  sid  : StationNo
  rate : RateCode
  deriving DecidableEq, Repr

/-- The commands and events of the FN-44, one per row of the table. The rows of the command register carry no byte strobes: a write of
one byte to it issues a command as a write of the word does (DESIGN CHOICE, log entry 23). The four capture rows carry none either: a
read of one byte of a view's first word captures as a read of the word does (DESIGN CHOICE, log entry 29). -/
inductive Instr where
  /-- PUSH (R3). -/
  | push
  /-- POP-COMPLETION (R180). -/
  | popCompletion
  /-- POP-NOTICE (R184). -/
  | popNotice
  /-- JOIN (R162). -/
  | join
  /-- LEAVE (R166, R171, R174). -/
  | leave
  /-- QUIET(L) with the argument byte as written (R167). -/
  | quiet (arg : Byte)
  /-- WAKE (R168). -/
  | wake
  /-- ABORT(tag) with the argument byte as written (R63). -/
  | abort (arg : Byte)
  /-- ABORT-ALL (R66). -/
  | abortAll
  /-- CLEAR-FLAGS (R189). -/
  | clearFlags
  /-- SOFT-RESET (R189). -/
  | softReset
  /-- A command word whose code names no command (R188). -/
  | unassignedCommandCode (code : Byte)
  /-- A write to a station parameter or a window field, at a word address of the map (R190). -/
  | configurationWrite (addr : Byte) (data : Word) (lanes : Lanes)
  /-- A write through the staging data window, at a word address of the map (R191). -/
  | stagingWrite (addr : Byte) (data : Word) (lanes : Lanes)
  /-- A write to the peer index register (R158). -/
  | peerIndexWrite (data : Word) (lanes : Lanes)
  /-- A write to a word of the map that has no row of its own (R187, R196). -/
  | registerWrite (addr : Byte) (data : Word) (lanes : Lanes)
  /-- A read of status word 0 (R193). -/
  | statusCapture
  /-- A read of the first word of the completion head view (R180). -/
  | completionHeadCapture
  /-- A read of the first word of the notice head view (R184). -/
  | noticeHeadCapture
  /-- A read of the first word of the peer record view (R158). -/
  | peerRecordCapture
  /-- RESETN, with the strap values it samples (R160, R175). `held` says that the pin stays asserted after the event (R187): the
  event is its assertion, and otherwise its release or a whole pulse (log entry 17). -/
  | coldReset (straps : Straps) (held : Bool)
  /-- Dispatch of the head descriptor (R6). -/
  | dispatch
  /-- The completion arbiter writes a slot's record (R43). -/
  | slotCompletionWrite
  /-- The completion arbiter writes a direct completion (R17). -/
  | directCompletion
  /-- The local dispatch arbiter loads the transmit register (R26). -/
  | transmitRegisterLoad
  /-- This station starts its loaded frame (R133). -/
  | frameStart
  /-- This station loses the contention (R134). -/
  | contentionLost
  /-- The lost-contention count reaches 4 (R135). -/
  | urgencyAgeing
  /-- The last bit of the contention code is driven without withdrawing (R28). -/
  | transmissionBegins
  /-- The last stop bit is read back without mismatch (R141). -/
  | frameSentInFull
  /-- A readback mismatch (R141). -/
  | frameAbandoned
  /-- The transmit-fault count has reached 4 (R142). -/
  | linkFault
  /-- The end of a frame heard from another station (R137). -/
  | frameReceived (frame : Heard)
  /-- The placed ANSWER goes out in the reply slot (R136). -/
  | answerTransmissionStart
  /-- AW passes with no frame begun (R131). -/
  | reservationTimeout
  /-- The answer timer expires (R46). -/
  | answerTimerExpiry
  /-- 16 bit times of recessive line (R130). -/
  | idleGapElapsed
  /-- The hold-point timer expires (R89). -/
  | holdPointExpiry
  /-- The lifetime timer of one context expires (R90). -/
  | contextLifetimeExpiry (entry : EntryNo)
  /-- The back-off timer of one slot expires (R53). -/
  | backoffExpiry (slot : Tag)
  /-- The listen timer expires (R165). -/
  | listenTimerExpiry
  /-- The beacon timer expires (R169). -/
  | beaconPeriodTick
  /-- A record's silence count has reached 3 (R153). -/
  | silenceCountExpiry
  /-- The target bus arbiter takes a context (R111). -/
  | targetBusArbiter
  /-- The device terminates an attempt (R116). -/
  | targetTermination (signals : Termination)
  /-- The device withdraws its termination (R120). -/
  | terminationWithdrawn
  /-- The target monitor timer expires (R120). -/
  | targetMonitorExpiry
  /-- The first dominant bit another station drives (R130, R133). -/
  | dominantBitFromAnotherStation
  deriving DecidableEq, Repr

end Sys2Proof
end

