-- ==== Sys2Proof/WellFormed.lean ====
section
/-! DEFINITION. Which terms of `Instr` a sender can issue: the operands that belong to another row of the table, or that no
access carries, are excluded here. -/

namespace Sys2Proof

/-- A host write asserts at least one byte strobe (R187). -/
def Lanes.wellFormed (l : Lanes) : Bool := l.low || l.high

/-- The word address of a station parameter or of a window entry's field (12.3). -/
def isConfigurationAddress (a : Byte) : Bool :=
  (0x30 ≤ a.toNat && a.toNat ≤ 0x39) || (0x40 ≤ a.toNat && a.toNat ≤ 0x7F && a.toNat % 8 != 7)

/-- A word address of the staging data window (12.3). -/
def isStagingAddress (a : Byte) : Bool := 0x80 ≤ a.toNat && a.toNat ≤ 0xBF

/-- A word address whose writes have no row of their own: not the command register, the peer index, a configuration word or
the staging window. -/
def isPlainAddress (a : Byte) : Bool :=
  a.toNat != 0x00 && a.toNat != 0x08 && !isConfigurationAddress a && !isStagingAddress a

/-- A command code that names no command (12.3). -/
def isUnassignedCode (c : Byte) : Bool := c.toNat == 0 || 12 ≤ c.toNat

/-- At least one of TACK, TERR and TRTY is asserted (R116). -/
def Termination.wellFormed (t : Termination) : Bool := t.tack.isSome || t.terr || t.trty

/-- The operands of a command are ones its row can carry. -/
def WellFormed : Instr → Bool
  | .unassignedCommandCode c => isUnassignedCode c
  | .configurationWrite a _ l => isConfigurationAddress a && l.wellFormed
  | .stagingWrite a _ l => isStagingAddress a && l.wellFormed
  | .peerIndexWrite _ l => l.wellFormed
  | .registerWrite a _ l => isPlainAddress a && l.wellFormed
  | .frameReceived f => !f.bytes.isEmpty
  | .targetTermination t => t.wellFormed
  | .push | .popCompletion | .popNotice | .join | .leave | .quiet _ | .wake | .abort _ | .abortAll
  | .clearFlags | .softReset | .statusCapture | .completionHeadCapture | .noticeHeadCapture
  | .peerRecordCapture | .coldReset _ _ | .dispatch | .slotCompletionWrite | .directCompletion
  | .transmitRegisterLoad | .frameStart | .contentionLost | .urgencyAgeing | .transmissionBegins
  | .frameSentInFull | .frameAbandoned | .linkFault | .answerTransmissionStart | .reservationTimeout
  | .answerTimerExpiry | .idleGapElapsed | .holdPointExpiry | .contextLifetimeExpiry _
  | .backoffExpiry _ | .listenTimerExpiry | .beaconPeriodTick | .silenceCountExpiry
  | .targetBusArbiter | .terminationWithdrawn | .targetMonitorExpiry
  | .dominantBitFromAnotherStation => true

end Sys2Proof
end

