-- ==== Sys2Proof/Decode.lean ====
section
/-! DEFINITION. Words as commands. The table gives no row any bits (every row's `fields` is empty and none has a `fixed` pattern), so
no word spells a command by the table. What the host writes is a command all the same: the code and the argument of a word written to
the command register, and the row each address of the host map belongs to (R187, R188 and spec/12_layouts.md, 12.3). -/

namespace Sys2Proof

/-- The command a word of `nbits` bits spells by the table's bits: none, since the table gives no row any bits. -/
def decodeTableWord (_nbits _w : Nat) : Option Instr := none

/-- The code of a word written to the command register, its bits 7 to 0 (12.3). -/
def commandCode (w : Word) : Byte := w.setWidth 8

/-- The argument of a word written to the command register, its bits 15 to 8 (12.3). -/
def commandArgument (w : Word) : Byte := (w >>> 8).setWidth 8

/-- The command a word written to the command register issues (R188, 12.3). -/
def commandOf (w : Word) : Instr :=
  match (commandCode w).toNat with
  | 1 => .push
  | 2 => .popCompletion
  | 3 => .popNotice
  | 4 => .join
  | 5 => .leave
  | 6 => .quiet (commandArgument w)
  | 7 => .wake
  | 8 => .abort (commandArgument w)
  | 9 => .abortAll
  | 10 => .clearFlags
  | 11 => .softReset
  | _ => .unassignedCommandCode (commandCode w)

/-- The command a host write issues, by its word address (R187, 12.3); an access with no byte strobe is none (DESIGN CHOICE, log
entry 4). A write of one byte to the command register issues the command of the whole data lines, since no rule gives the unstrobed
half another value (DESIGN CHOICE, log entry 23). -/
def hostWrite (addr : Byte) (data : Word) (lanes : Lanes) : Option Instr :=
  if lanes.wellFormed then
    some
      (if addr = 0x00 then commandOf data
       else if addr = 0x08 then .peerIndexWrite data lanes
       else if isConfigurationAddress addr then .configurationWrite addr data lanes
       else if isStagingAddress addr then .stagingWrite addr data lanes
       else .registerWrite addr data lanes)
  else none

/-- The command a host read issues, by its word address: the first word of a view captures (R158, R180, R184, R193), and a read of
any other word changes nothing. A read of one byte of that first word captures too (DESIGN CHOICE, log entry 29). -/
def hostReadCapture (addr : Byte) : Option Instr :=
  match addr.toNat with
  | 0x02 => some .statusCapture
  | 0x09 => some .peerRecordCapture
  | 0x20 => some .completionHeadCapture
  | 0x28 => some .noticeHeadCapture
  | _ => none

end Sys2Proof
end

