-- ==== Sys2Proof/Config.lean ====
section
/-! DEFINITION. The constants the FN-44 manual fixes: capacities, frame constants, and the cold default of each station
parameter. The manual leaves no value of an effect open, so this file holds no free value. -/

namespace Sys2Proof.Config

/-- Capacity of the request queue (R4). -/
def requestCapacity : Nat := 16

/-- Capacity of the completion queue (R177). -/
def completionCapacity : Nat := 16

/-- Capacity of the notice queue (R183). -/
def noticeCapacity : Nat := 8

/-- Bytes of staging memory (R22). -/
def stagingSize : Nat := 8192

/-- Most bytes one segment offers (R23). -/
def segmentBytes : Nat := 16

/-- The first byte of every frame (spec/12_layouts.md, 12.1). -/
def syncByte : Byte := 0x96

/-- The protocol revision of the digest (R140). -/
def protocolRevision : Byte := 1

/-- Saturation value of the segment totals and of the CRC error count (R30, R137). -/
def saturation : Nat := 65535

/-- Lost contentions that make a frame age (R135). -/
def ageingLosses : Nat := 4

/-- Consecutive abandonments that make a link fault (R142). -/
def faultLimit : Nat := 4

/-- Ticks without a frame that make a peer silent (R153). -/
def silenceLimit : Nat := 3

/-- The cold default of each station parameter, in the order of R162 (R161). -/
def parameterDefault : Fin 10 → Byte
  | 0 => 40
  | 1 => 10
  | 2 => 20
  | 3 => 16
  | 4 => 3
  | 5 => 8
  | 6 => 32
  | 7 => 3
  | 8 => 50
  | 9 => 100

end Sys2Proof.Config
end

