-- ==== Sys2Proof/Machine/State.lean ====
section
/-! DEFINITION. The state of an FN-44, block by block as the Introduction divides the part (spec/00_scope.md, "Blocks of the
part"), the queue of waiting commands, and the state after reset. A field the manual calls absent outside some state is an
argument of that state's constructor, so that it cannot be held anywhere else. -/

namespace Sys2Proof.Machine

/-! ### Requests, completions and causes -/

/-- The kind of a descriptor PUSH has accepted (R1). -/
inductive DescriptorKind where
  | read
  | write
  | fence
  deriving DecidableEq, Repr

/-- The op of a SEGMENT and of a context. -/
inductive Op where
  | read
  | write
  deriving DecidableEq, Repr

/-- The eight refusal causes (R52). -/
inductive Cause where
  | noWindow
  | access
  | denied
  | targetError
  | targetTimeout
  | targetRetry
  | replayLost
  | malformed
  deriving DecidableEq, Repr

/-- A slot's last cause: a refusal cause or a limit (R49). -/
inductive LastCause where
  | refusal (c : Cause)
  | busyLimit
  | heldLimit
  | noAnswerLimit
  deriving DecidableEq, Repr

/-- The completion statuses (R68). -/
inductive Status where
  | ok
  | aborted
  | refused (c : Cause)
  | peerBusy
  | peerHeldLimit
  | peerNoAnswer
  | peerAbsent
  | peerSilent
  | peerLeft
  | peerMismatch
  | stationIsolated
  | stationLeaving
  deriving DecidableEq, Repr

/-- The endings a transition records on a slot whose exchange is in flight (R19, R55). -/
inductive Deferred where
  | stationLeaving
  | peerSilent
  | peerLeft
  | peerMismatch
  deriving DecidableEq, Repr

/-- The eight fields of a request descriptor (R1). -/
structure Descriptor where
  kind          : DescriptorKind
  destination   : StationNo
  remoteAddress : BitVec 32
  length        : Nat
  stagingOffset : Nat
  urgency       : Urgency
  cookie        : Word
  notify        : Bool
  deriving DecidableEq, Repr

/-- The descriptor-build registers, each holding the bits 12.3 lists for it (R2). -/
structure DescriptorBuild where
  kind          : BitVec 2
  destination   : BitVec 5
  remoteAddress : BitVec 32
  length        : Word
  stagingOffset : Word
  urgency       : BitVec 3
  cookie        : Word
  notify        : Bool
  deriving DecidableEq, Repr

/-- A slot's state (R20). AWAITING holds the duration of its answer timer in µs, BACKOFF the duration of its back-off timer in
µs, and DONE the pending status and the place in the done order (R19, R41). -/
inductive SlotState where
  | free
  | behind
  | ready
  | contending
  | awaiting (answerTimer : Nat)
  | backoff (backoffTimer : Nat)
  | parked
  | done (status : Status) (order : Nat)
  deriving DecidableEq, Repr

/-- One record of the outstanding table (R19). `sentHere` says that a SEGMENT at the current offset has been sent in full, which
R30 needs to tell a retry from a first attempt. -/
structure Slot where
  state         : SlotState
  generation    : Generation
  descriptor    : Descriptor
  dispatchSeq   : Nat
  bytesDone     : Nat
  offered       : Option Nat
  firstFlag     : Bool
  busyCount     : Nat
  heldCount     : Nat
  noAnswerCount : Nat
  segmentsSent  : Nat
  retries       : Nat
  lastCause     : Option LastCause
  abortMark     : Bool
  deferred      : Option Deferred
  sentHere      : Bool
  deriving DecidableEq, Repr

/-- The requester and its request queue (R4, R5, R8, R12, R14, R19, R41). -/
structure Requester where
  queue       : List Descriptor
  drainCount  : Nat
  fenceWait   : Bool
  dispatchSeq : Nat
  doneNext    : Nat
  slots       : Vector Slot 8
  deriving DecidableEq, Repr

/-! ### Frames -/

/-- The fields of a SEGMENT (R23, 12.1). -/
structure Segment where
  op          : Op
  firstFlag   : Bool
  urgency     : Urgency
  destination : StationNo
  source      : StationNo
  tag         : Tag
  generation  : Generation
  offset      : Byte
  address     : BitVec 32
  length      : Byte
  data        : List Byte
  deriving DecidableEq, Repr

/-- The answer codes (12.1). -/
inductive AnswerCode where
  | taken
  | held
  | busy
  | refused
  deriving DecidableEq, Repr

/-- The fields of an ANSWER (R70, 12.1). -/
structure Answer where
  destination : StationNo
  source      : StationNo
  tag         : Tag
  generation  : Generation
  offset      : Byte
  code        : AnswerCode
  cause       : BitVec 4
  count       : Byte
  data        : List Byte
  deriving DecidableEq, Repr

/-- The states a BEACON names (12.1). -/
inductive BeaconState where
  | active
  | quiet
  | leaving
  deriving DecidableEq, Repr

/-- The fields of a BEACON as received; state code 3 names no state (R150, R195). -/
structure Beacon where
  stateCode : BitVec 2
  wakeLevel : Urgency
  source    : StationNo
  sequence  : Byte
  digest    : Word
  deriving DecidableEq, Repr

/-- A BEACON of this station as built at load (R170). -/
structure OwnBeacon where
  state     : BeaconState
  wakeLevel : Urgency
  sequence  : Byte
  digest    : Word
  deriving DecidableEq, Repr

/-- What the transmit register holds: a slot's SEGMENT or this station's BEACON (R132). -/
inductive TxFrame where
  | segment (slot : Tag) (frame : Segment)
  | beacon (frame : OwnBeacon)
  deriving DecidableEq, Repr

/-! ### The link unit -/

/-- The medium states (R129). -/
inductive Medium where
  | idle
  | gap
  | contention
  | receiving
  | transmitting
  | reserved
  deriving DecidableEq, Repr

/-- Which gap runs: the first one after the receiver was turned on, the late-reply gap, or an ordinary one (R129, R131). -/
inductive GapKind where
  | ordinary
  | first
  | lateReply
  deriving DecidableEq, Repr

/-- How the frame on the line is read: in the contended layout, or in the answer layout inside a reply slot or in the
late-reply gap (R130, R131). -/
inductive Layout where
  | contended
  | replySlot
  | lateReply
  deriving DecidableEq, Repr

/-- The link unit (R128 to R145). `begun` says that transmission of the transmit register's frame has begun (R28),
`contending` that this station drives in the contention on the line, `answerBegun` that the answer register's frame is being
sent, and `followTail` that the frame on the line is one this station abandoned (R141). -/
structure Link where
  rate             : RateCode
  medium           : Medium
  gap              : GapKind
  layout           : Layout
  followTail       : Bool
  contending       : Bool
  tx               : Option TxFrame
  begun            : Bool
  answer           : Option Answer
  answerBegun      : Bool
  effectiveUrgency : Urgency
  lostCount        : Nat
  transmitFaults   : Nat
  crcErrors        : Nat
  ownDigest        : Option Word
  deriving DecidableEq, Repr

/-! ### The responder -/

/-- The result of a context's run (R74, R121). -/
inductive RunResult where
  | taken (count : Nat)
  | refused (c : Cause)
  deriving DecidableEq, Repr

/-- A context's state (R75). READY and ANSWERED hold the stored result and the duration of the running lifetime timer in ms,
ANSWERED also the place in the answering order (R74, R76, R90). -/
inductive ContextState where
  | free
  | queued
  | cycling
  | ready (result : RunResult) (lifetime : Nat)
  | answered (result : RunResult) (answeredTime : Nat) (lifetime : Nat)
  deriving DecidableEq, Repr

/-- The orphan flag, with what made the orphan: a replacement, whose end posts a notice, or isolation, whose end posts none
(R92). -/
inductive Orphan where
  | clear
  | replaced
  | isolated
  deriving DecidableEq, Repr

/-- One entry of the context table (R74). -/
structure Context where
  state          : ContextState
  requester      : StationNo
  tag            : Tag
  generation     : Generation
  op             : Op
  offset         : Byte
  address        : BitVec 32
  window         : EntryNo
  lengthInWindow : Nat
  bytesMoved     : Nat
  data           : Vector Byte 16
  writePerformed : Bool
  orphan         : Orphan
  answerOwed     : Bool
  creation       : Nat
  deriving DecidableEq, Repr

/-- The responder: its context table, its hold-point timer (the duration in µs while it runs) and its two running orders
(R74, R76, R87). -/
structure Responder where
  contexts     : Vector Context 8
  holdTimer    : Option Nat
  creationNext : Nat
  answeredNext : Nat
  deriving DecidableEq, Repr

/-! ### The window table and the target bus unit -/

/-- One entry of the window table, each field holding the bits 12.3 lists for it (R96, R196). -/
structure WindowEntry where
  valid         : Bool
  sizeExponent  : BitVec 5
  access        : BitVec 2
  widthCap      : BitVec 2
  burst         : Bool
  prefetchable  : Bool
  spanBase      : BitVec 32
  localBase     : BitVec 24
  requesterMask : BitVec 32
  deriving DecidableEq, Repr

/-- The window fields held for a run (R110, R112). -/
structure HeldWindow where
  spanBase  : BitVec 32
  localBase : BitVec 24
  widthCap  : Nat
  burst     : Bool
  deriving DecidableEq, Repr

/-- The cycle on the bus, kept between a retry request and its further attempt (R110, R115). -/
structure Cycle where
  address : BitVec 24
  size    : Nat
  write   : Bool
  attempt : Nat
  deriving DecidableEq, Repr

/-- The target monitor timer and what it watches (R120): stopped, the wait for a termination, or the wait for a termination's
withdrawal. `runGoesOn` says that the run the termination belongs to still has an attempt to make. -/
inductive Monitor where
  | stopped
  | termination (duration : Nat)
  | withdrawal (duration : Nat) (runGoesOn : Bool)
  deriving DecidableEq, Repr

/-- The outputs of the target bus (R110, R115, 12.2). A lane that carries no defined data is `none`. -/
structure BusPins where
  strobe    : Bool
  address   : BitVec 24
  sizeCode  : BitVec 2
  direction : Bool
  lanes     : Vector (Option Byte) 4
  deriving DecidableEq, Repr

/-- The target bus unit (R110). -/
structure TargetBus where
  current    : Option EntryNo
  held       : Option HeldWindow
  cycle      : Option Cycle
  retryCount : Nat
  monitor    : Monitor
  pins       : BusPins
  deriving DecidableEq, Repr

/-! ### The peer table and the station controller -/

/-- A peer record's state; QUIET holds the peer's wake level (R146, R147). -/
inductive PeerState where
  | self
  | absent
  | present
  | quiet (wakeLevel : Urgency)
  | silent
  | mismatched
  deriving DecidableEq, Repr

/-- One record of the peer table (R146). -/
structure PeerRecord where
  state        : PeerState
  silenceCount : Nat
  lastSequence : Option Byte
  deriving DecidableEq, Repr

/-- The station state; QUIET holds the own wake level (R159). -/
inductive StationState where
  | offline
  | listening
  | active
  | quiet (wakeLevel : Urgency)
  | leaving
  | isolated
  deriving DecidableEq, Repr

/-- The config fault detail (R162). -/
inductive ConfigFault where
  | none
  | parameter (p : Fin 10)
  | windowEntry (n : EntryNo)
  deriving DecidableEq, Repr

/-- The pending beacon's content (R170). -/
structure PendingBeacon where
  state     : BeaconState
  wakeLevel : Urgency
  deriving DecidableEq, Repr

/-- The station controller (R159 to R170). The listen timer is the time left in ms while it runs, the beacon timer its period in
ms while it runs. `locked` is the configuration lock of R164. -/
structure Controller where
  station        : StationState
  ownNumber      : StationNo
  parameters     : Vector Byte 10
  locked         : Bool
  faultDetail    : ConfigFault
  listenTimer    : Option Nat
  beaconTimer    : Option Nat
  pendingBeacon  : Option PendingBeacon
  beaconSequence : Byte
  deriving DecidableEq, Repr

/-! ### Completions, notices and the host port -/

/-- A completion record (R176). The tag is `none` for a direct completion, which the host reads as 0xF. -/
structure CompletionRecord where
  cookie       : Word
  tag          : Option Tag
  generation   : Generation
  kind         : DescriptorKind
  destination  : StationNo
  status       : Status
  bytesDone    : Nat
  segmentsSent : Nat
  retries      : Nat
  lastCause    : Option LastCause
  notify       : Bool
  deriving DecidableEq, Repr

/-- The completion queue, oldest record first, its notify count and the capture of its head view: released, or the record (or
the zeros of an empty queue) captured (R177, R180, R181). -/
structure Completions where
  records     : List CompletionRecord
  notifyCount : Nat
  capture     : Option (Option CompletionRecord)
  deriving DecidableEq, Repr

/-- The eleven notice kinds (R182). -/
inductive NoticeKind where
  | joined
  | woken
  | left
  | duplicateStation
  | linkFault
  | peerUp
  | peerQuiet
  | peerSilent
  | peerLeft
  | peerMismatch
  | contextDropped
  deriving DecidableEq, Repr

/-- Why a context was dropped (R78, R90). -/
inductive DropReason where
  | expired
  | replaced
  deriving DecidableEq, Repr

/-- A notice's detail (R182). -/
inductive NoticeDetail where
  | number (n : Urgency)
  | dropped (tag : Tag) (generation : Generation) (reason : DropReason) (writePerformed : Bool)
  deriving DecidableEq, Repr

/-- A notice record (R182). -/
structure Notice where
  kind    : NoticeKind
  station : StationNo
  detail  : NoticeDetail
  deriving DecidableEq, Repr

/-- The notice queue, oldest notice first, NOTICES-LOST and the capture of its head view (R183, R184). -/
structure Notices where
  records : List Notice
  lost    : Bool
  capture : Option (Option Notice)
  deriving DecidableEq, Repr

/-- The command results (R188). -/
inductive CommandResult where
  | accepted
  | refusedState
  | refusedFull
  | refusedEmpty
  | refusedInvalid
  | refusedLocked
  deriving DecidableEq, Repr

/-- The items of the status register (R193). -/
structure StatusItems where
  station        : StationState
  ownNumber      : StationNo
  requestCount   : Nat
  completions    : Nat
  notices        : Nat
  noticesLost    : Bool
  configLocked   : Bool
  faultDetail    : ConfigFault
  transmitFaults : Nat
  deriving DecidableEq, Repr

/-- The host port's own registers, and the captures of the status and peer record views (R187, R190, R194). `configLocked` is
the sticky flag CONFIG-LOCKED, and `resetAsserted` says that RESETN is asserted, so that host accesses are not taken (R187). -/
structure HostPort where
  resetAsserted    : Bool
  result           : CommandResult
  page             : BitVec 6
  peerIndex        : StationNo
  build            : DescriptorBuild
  completionEnable : Bool
  noticeEnable     : Bool
  configLocked     : Bool
  statusCapture    : Option StatusItems
  peerCapture      : Option PeerRecord
  deriving DecidableEq, Repr

/-! ### The station as a whole -/

/-- Staging memory as (address, byte) pairs, addresses strictly rising; an address not listed holds 0 (R22). -/
abbrev Memory := List Host.Cell

/-- The state of one FN-44 and the commands waiting for it, first in, first out. -/
structure State where
  requester   : Requester
  staging     : Memory
  responder   : Responder
  windows     : Vector WindowEntry 8
  target      : TargetBus
  link        : Link
  peers       : Vector PeerRecord 32
  controller  : Controller
  completions : Completions
  notices     : Notices
  hostPort    : HostPort
  pending     : List Instr
  deriving DecidableEq, Repr

/-- The reasons a step may fault: none. No rule of the manual stops the part, so this type has no constructor. -/
inductive Fault where
  deriving DecidableEq, Repr

/-- The reasons a step may be refused. -/
inductive Refusal where
  /-- Raised by an arm of `exec` whose command has no meaning yet; safe. Every command has its meaning, so no arm raises it. -/
  | notModelled (mnemonic : String)
  deriving DecidableEq, Repr

/-- What a command answers. -/
abbrev StepResult := Host.Outcome State Fault Refusal

/-! ### Reset values -/

/-- A descriptor with every field zero, held by a slot that holds no transaction. -/
def Descriptor.zero : Descriptor :=
  { kind := .read, destination := 0, remoteAddress := 0, length := 0, stagingOffset := 0, urgency := 0, cookie := 0,
    notify := false }

/-- A FREE slot that keeps its generation (R21). -/
def Slot.freed (g : Generation) : Slot :=
  { state := .free, generation := g, descriptor := Descriptor.zero, dispatchSeq := 0, bytesDone := 0, offered := none,
    firstFlag := false, busyCount := 0, heldCount := 0, noAnswerCount := 0, segmentsSent := 0, retries := 0,
    lastCause := none, abortMark := false, deferred := none, sentHere := false }

/-- The requester after a cold or soft reset (R5, R21). -/
def Requester.reset : Requester :=
  { queue := [], drainCount := 0, fenceWait := false, dispatchSeq := 0, doneNext := 0,
    slots := Vector.replicate 8 (Slot.freed 0) }

/-- A FREE context entry. -/
def Context.empty : Context :=
  { state := .free, requester := 0, tag := 0, generation := 0, op := .read, offset := 0, address := 0, window := 0,
    lengthInWindow := 0, bytesMoved := 0, data := Vector.replicate 16 0, writePerformed := false, orphan := .clear,
    answerOwed := false, creation := 0 }

/-- The responder after a cold or soft reset (R95). -/
def Responder.reset : Responder :=
  { contexts := Vector.replicate 8 Context.empty, holdTimer := none, creationNext := 0, answeredNext := 0 }

/-- A window entry after a cold reset (R98). -/
def WindowEntry.cold : WindowEntry :=
  { valid := false, sizeExponent := 0, access := 0, widthCap := 0, burst := false, prefetchable := false, spanBase := 0,
    localBase := 0, requesterMask := 0 }

/-- The bus in its idle condition: strobes negated and no data driven, and the address and size outputs hold (R110). The direction
output holds too: the model's choice (DESIGN CHOICE, log entry 24). -/
def BusPins.idle (p : BusPins) : BusPins :=
  { p with strobe := false, lanes := Vector.replicate 4 none }

/-- The target bus outputs before the first cycle. -/
def BusPins.initial : BusPins :=
  { strobe := false, address := 0, sizeCode := 0, direction := false, lanes := Vector.replicate 4 none }

/-- The target bus unit idle after a reset, over the outputs it last held (R125). -/
def TargetBus.reset (p : BusPins) : TargetBus :=
  { current := none, held := none, cycle := none, retryCount := 0, monitor := .stopped, pins := p.idle }

/-- The link unit after a cold reset that sampled `rate` (R145). -/
def Link.cold (rate : RateCode) : Link :=
  { rate := rate, medium := .gap, gap := .first, layout := .contended, followTail := false, contending := false, tx := none,
    begun := false, answer := none, answerBegun := false, effectiveUrgency := 0, lostCount := 0, transmitFaults := 0,
    crcErrors := 0, ownDigest := none }

/-- A peer record as the clearing leaves it (R157). -/
def PeerRecord.cleared (st : PeerState) : PeerRecord := { state := st, silenceCount := 0, lastSequence := none }

/-- The peer table as the clearing leaves it, the own record SELF (R157). -/
def clearedPeers (own : StationNo) : Vector PeerRecord 32 :=
  Vector.ofFn fun i => PeerRecord.cleared (if i = own then .self else .absent)

/-- The station controller after a cold reset that sampled `own` (R161, R175). -/
def Controller.cold (own : StationNo) : Controller :=
  { station := .offline, ownNumber := own, parameters := Vector.ofFn Config.parameterDefault, locked := false,
    faultDetail := .none, listenTimer := none, beaconTimer := none, pendingBeacon := none, beaconSequence := 0 }

/-- The completion queue after a reset (R186). -/
def Completions.reset : Completions := { records := [], notifyCount := 0, capture := none }

/-- The notice queue after a reset (R186). -/
def Notices.reset : Notices := { records := [], lost := false, capture := none }

/-- The descriptor-build registers after a cold reset (R2). -/
def DescriptorBuild.zero : DescriptorBuild :=
  { kind := 0, destination := 0, remoteAddress := 0, length := 0, stagingOffset := 0, urgency := 0, cookie := 0,
    notify := false }

/-- The host port after a cold reset (R194), with RESETN still asserted or not. -/
def HostPort.cold (held : Bool) : HostPort :=
  { resetAsserted := held, result := .accepted, page := 0, peerIndex := 0, build := DescriptorBuild.zero, completionEnable := false,
    noticeEnable := false, configLocked := false, statusCapture := none, peerCapture := none }

/-- The part right after a cold reset that sampled the straps `own` and `rate`, over the target bus outputs `pins`, with `held`
saying that RESETN is still asserted and `q` the commands still waiting. -/
def State.cold (own : StationNo) (rate : RateCode) (pins : BusPins) (held : Bool) (q : List Instr) : State :=
  { requester := Requester.reset, staging := [], responder := Responder.reset,
    windows := Vector.replicate 8 WindowEntry.cold, target := TargetBus.reset pins, link := Link.cold rate,
    peers := clearedPeers own, controller := Controller.cold own, completions := Completions.reset,
    notices := Notices.reset, hostPort := HostPort.cold held, pending := q }

/-- The machine right after reset: a cold reset of a part strapped with SID and RATE 0 (DESIGN CHOICE, log entry 1), RESETN
released, with no command waiting. -/
def State.reset : State := State.cold 0 0 BusPins.initial false []

/-! ### Updating one block -/

/-- Change the requester. -/
def State.onRequester (f : Requester → Requester) (s : State) : State := { s with requester := f s.requester }
/-- Replace staging memory. -/
def State.setStaging (m : Memory) (s : State) : State := { s with staging := m }
/-- Change the responder. -/
def State.onResponder (f : Responder → Responder) (s : State) : State := { s with responder := f s.responder }
/-- Replace the window table. -/
def State.setWindows (w : Vector WindowEntry 8) (s : State) : State := { s with windows := w }
/-- Change the target bus unit. -/
def State.onTarget (f : TargetBus → TargetBus) (s : State) : State := { s with target := f s.target }
/-- Change the link unit. -/
def State.onLink (f : Link → Link) (s : State) : State := { s with link := f s.link }
/-- Replace the peer table. -/
def State.setPeers (p : Vector PeerRecord 32) (s : State) : State := { s with peers := p }
/-- Change the station controller. -/
def State.onController (f : Controller → Controller) (s : State) : State := { s with controller := f s.controller }
/-- Change the completion queue. -/
def State.onCompletions (f : Completions → Completions) (s : State) : State := { s with completions := f s.completions }
/-- Change the notice queue. -/
def State.onNotices (f : Notices → Notices) (s : State) : State := { s with notices := f s.notices }
/-- Change the host port. -/
def State.onHost (f : HostPort → HostPort) (s : State) : State := { s with hostPort := f s.hostPort }
/-- Replace the queue of waiting commands. -/
def State.setPending (q : List Instr) (s : State) : State := { s with pending := q }

end Sys2Proof.Machine
end

