-- ==== Sys2Proof/Machine/Flags.lean ====
section
/-! DEFINITION. The flags and the output the host sees as terms over the state: HINT (R185), which blocks the station state
turns on (R144), the status items (R193). -/

namespace Sys2Proof.Machine

/-- The receiver is on (R144). -/
def State.receiverOn (s : State) : Bool :=
  match s.controller.station with
  | .listening | .active | .quiet _ | .leaving => true
  | .offline | .isolated => false

/-- The transmitter may send (R144). -/
def State.transmitterOn (s : State) : Bool :=
  match s.controller.station with
  | .active | .quiet _ | .leaving => true
  | .offline | .listening | .isolated => false

/-- The station state is QUIET, whatever the wake level. -/
def StationState.isQuiet : StationState → Bool
  | .quiet _ => true
  | _ => false

/-- HINT is asserted (R185). -/
def State.hint (s : State) : Bool :=
  (s.hostPort.completionEnable && 0 < s.completions.notifyCount) ||
    (s.hostPort.noticeEnable && !s.notices.records.isEmpty) ||
    (s.hostPort.noticeEnable && s.notices.lost)

/-- The items of the status register as they stand (R193). -/
def State.statusItems (s : State) : StatusItems :=
  { station := s.controller.station
    ownNumber := s.controller.ownNumber
    requestCount := s.requester.queue.length
    completions := s.completions.records.length
    notices := s.notices.records.length
    noticesLost := s.notices.lost
    configLocked := s.hostPort.configLocked
    faultDetail := s.controller.faultDetail
    transmitFaults := s.link.transmitFaults }

end Sys2Proof.Machine
end

