-- ==== Sys2Proof/Machine/Operands.lean ====
section
/-! DEFINITION. How operands are read: bits of a byte or word, the byte strobes of a host write, and the host register map of
spec/12_layouts.md, 12.3. -/

namespace Sys2Proof.Machine

/-- The number in bits `lo` to `lo + n - 1` of a value. -/
def bitField (v lo n : Nat) : Nat := v / 2 ^ lo % 2 ^ n

/-- One bit of a value as a flag. -/
def bitFlag (v k : Nat) : Bool := bitField v k 1 == 1

/-- A flag as a bit. -/
def flagBit (b : Bool) : Nat := if b then 1 else 0

/-- The low byte of a register word. -/
def lowByte (w : Word) : Byte := BitVec.ofNat 8 w.toNat

/-- The high byte of a register word. -/
def highByte (w : Word) : Byte := BitVec.ofNat 8 (w.toNat / 256)

/-- A register word from its two bytes, the low byte first. -/
def wordOf (lo hi : Byte) : Word := BitVec.ofNat 16 (lo.toNat + 256 * hi.toNat)

/-- A word after a host write: each half keeps its value unless its strobe is asserted (R187, R191). -/
def mergeLanes (old new : Word) (l : Lanes) : Word :=
  wordOf (lowByte (if l.low then new else old)) (highByte (if l.high then new else old))

/-- The registers of the host map (12.3). A view or a group carries the word's place in it. -/
inductive HostRegister where
  | command
  | result
  | status (word : Fin 3)
  | crcCount
  | enables
  | page
  | peerIndex
  | peerView (word : Fin 2)
  | build (word : Fin 9)
  | completionView (word : Fin 6)
  | noticeView (word : Fin 2)
  | parameter (p : Fin 10)
  | window (entry : EntryNo) (word : Fin 7)
  | staging (pair : Fin 64)
  | unlisted
  deriving DecidableEq, Repr

/-- The register a word address names; word 7 of a window entry and the gaps of the map name none (12.3, R196). -/
def hostRegister (a : Byte) : HostRegister :=
  let n := a.toNat
  if n = 0x00 then .command
  else if n = 0x01 then .result
  else if n ≤ 0x04 then .status (Fin.ofNat 3 (n - 0x02))
  else if n = 0x05 then .crcCount
  else if n = 0x06 then .enables
  else if n = 0x07 then .page
  else if n = 0x08 then .peerIndex
  else if n ≤ 0x0A then .peerView (Fin.ofNat 2 (n - 0x09))
  else if n < 0x10 then .unlisted
  else if n ≤ 0x18 then .build (Fin.ofNat 9 (n - 0x10))
  else if n < 0x20 then .unlisted
  else if n ≤ 0x25 then .completionView (Fin.ofNat 6 (n - 0x20))
  else if n < 0x28 then .unlisted
  else if n ≤ 0x29 then .noticeView (Fin.ofNat 2 (n - 0x28))
  else if n < 0x30 then .unlisted
  else if n ≤ 0x39 then .parameter (Fin.ofNat 10 (n - 0x30))
  else if n < 0x40 then .unlisted
  else if n ≤ 0x7F then
    if n % 8 = 7 then .unlisted else .window (Fin.ofNat 8 ((n - 0x40) / 8)) (Fin.ofNat 7 (n % 8))
  else if n ≤ 0xBF then .staging (Fin.ofNat 64 (n - 0x80))
  else .unlisted

/-- The entry `i` of a list of the eight indexes that a test admits and no other admitted one is better than; of equals the
lowest-numbered. -/
def bestOf (admits : Fin 8 → Bool) (better : Fin 8 → Fin 8 → Bool) : Option (Fin 8) :=
  (List.finRange 8).foldl
    (fun best i =>
      if admits i then
        match best with
        | none => some i
        | some b => if better i b then some i else some b
      else best)
    none

/-- The lowest-numbered index that a test admits. -/
def lowestOf (admits : Fin 8 → Bool) : Option (Fin 8) := (List.finRange 8).find? admits

end Sys2Proof.Machine
end

