-- ==== Sys2Proof/Machine/Layouts.lean ====
section
/-! DEFINITION. The words of the host registers and views: spec/12_layouts.md, 12.3. Each function gives the word a register
or a captured item is read as; every unlisted bit is 0 (R196). -/

namespace Sys2Proof.Machine

/-! ### Codes -/

/-- Command result codes (12.3). -/
def CommandResult.code : CommandResult → Nat
  | .accepted => 0
  | .refusedState => 1
  | .refusedFull => 2
  | .refusedEmpty => 3
  | .refusedInvalid => 4
  | .refusedLocked => 5

/-- Refusal cause codes (R52, 12.1). -/
def Cause.code : Cause → Nat
  | .noWindow => 1
  | .access => 2
  | .denied => 3
  | .targetError => 4
  | .targetTimeout => 5
  | .targetRetry => 6
  | .replayLost => 7
  | .malformed => 8

/-- The cause an ANSWER's cause field names; a code not assigned counts as MALFORMED (R52). -/
def causeOf (code : BitVec 4) : Cause :=
  match code.toNat with
  | 1 => .noWindow
  | 2 => .access
  | 3 => .denied
  | 4 => .targetError
  | 5 => .targetTimeout
  | 6 => .targetRetry
  | 7 => .replayLost
  | _ => .malformed

/-- Last cause codes, 0 when absent (R49). -/
def lastCauseCode : Option LastCause → Nat
  | none => 0
  | some (.refusal c) => c.code
  | some .busyLimit => 9
  | some .heldLimit => 10
  | some .noAnswerLimit => 11

/-- Completion status codes (R68). -/
def Status.code : Status → Nat
  | .ok => 0
  | .aborted => 1
  | .refused c => c.code + 1
  | .peerBusy => 10
  | .peerHeldLimit => 11
  | .peerNoAnswer => 12
  | .peerAbsent => 13
  | .peerSilent => 14
  | .peerLeft => 15
  | .peerMismatch => 16
  | .stationIsolated => 17
  | .stationLeaving => 18

/-- Descriptor kind codes (12.3). -/
def DescriptorKind.code : DescriptorKind → Nat
  | .read => 1
  | .write => 2
  | .fence => 3

/-- The kind a code names; 0 names none (12.3). -/
def descriptorKindOf (code : BitVec 2) : Option DescriptorKind :=
  match code.toNat with
  | 1 => some .read
  | 2 => some .write
  | 3 => some .fence
  | _ => none

/-- Station state codes (12.3). -/
def StationState.code : StationState → Nat
  | .offline => 0
  | .listening => 1
  | .active => 2
  | .quiet _ => 3
  | .leaving => 4
  | .isolated => 5

/-- The own wake level as the status register shows it: 0 when absent (R159). -/
def StationState.shownLevel : StationState → Nat
  | .quiet l => l.val
  | _ => 0

/-- Peer record state codes (12.3). -/
def PeerState.code : PeerState → Nat
  | .absent => 0
  | .present => 1
  | .quiet _ => 2
  | .silent => 3
  | .mismatched => 4
  | .self => 5

/-- A peer's wake level as its record view shows it: 0 when absent (12.3). -/
def PeerState.shownLevel : PeerState → Nat
  | .quiet l => l.val
  | _ => 0

/-- Notice kind codes (12.3). -/
def NoticeKind.code : NoticeKind → Nat
  | .joined => 1
  | .woken => 2
  | .left => 3
  | .duplicateStation => 4
  | .linkFault => 5
  | .peerUp => 6
  | .peerQuiet => 7
  | .peerSilent => 8
  | .peerLeft => 9
  | .peerMismatch => 10
  | .contextDropped => 11

/-- Drop reason codes (12.3). -/
def DropReason.code : DropReason → Nat
  | .expired => 0
  | .replaced => 1

/-- The form of the config fault detail (12.3). -/
def ConfigFault.form : ConfigFault → Nat
  | .none => 0
  | .parameter _ => 1
  | .windowEntry _ => 2

/-- The index of the config fault detail, 0 for none (12.3). -/
def ConfigFault.index : ConfigFault → Nat
  | .none => 0
  | .parameter p => p.val
  | .windowEntry n => n.val

/-! ### Views -/

/-- The three words of the status register (12.3). -/
def statusWord (t : StatusItems) : Fin 3 → Word
  | 0 =>
    BitVec.ofNat 16
      (t.station.code + 8 * t.station.shownLevel + 64 * t.ownNumber.val + 2048 * flagBit t.noticesLost +
        4096 * flagBit t.configLocked)
  | 1 => BitVec.ofNat 16 (t.requestCount + 32 * t.completions + 1024 * t.notices)
  | 2 => BitVec.ofNat 16 (t.faultDetail.form + 4 * t.faultDetail.index + 64 * t.transmitFaults)

/-- The tag as the completion head view shows it: 0xF for a direct completion (12.3). -/
def shownTag : Option Tag → Nat
  | none => 0xF
  | some t => t.val

/-- The six words of the completion head view (12.3). -/
def recordWord (r : CompletionRecord) : Fin 6 → Word
  | 0 => r.cookie
  | 1 =>
    BitVec.ofNat 16
      (shownTag r.tag + 16 * r.generation.val + 256 * r.kind.code + 1024 * r.destination.val + 32768 * flagBit r.notify)
  | 2 => BitVec.ofNat 16 (r.status.code + 32 * lastCauseCode r.lastCause)
  | 3 => BitVec.ofNat 16 r.bytesDone
  | 4 => BitVec.ofNat 16 r.segmentsSent
  | 5 => BitVec.ofNat 16 r.retries

/-- The completion head view, zero for an empty queue (R180). -/
def completionWord (r : Option CompletionRecord) (k : Fin 6) : Word :=
  match r with
  | none => 0
  | some r => recordWord r k

/-- The detail word of a notice (12.3). -/
def detailWord : NoticeDetail → Word
  | .number n => BitVec.ofNat 16 n.val
  | .dropped t g why w => BitVec.ofNat 16 (t.val + 8 * g.val + 128 * why.code + 256 * flagBit w)

/-- The notice head view, zero for an empty queue (R184). -/
def noticeWord (n : Option Notice) (k : Fin 2) : Word :=
  match n with
  | none => 0
  | some n =>
    match k with
    | 0 => BitVec.ofNat 16 (n.kind.code + 16 * n.station.val)
    | 1 => detailWord n.detail

/-- The peer record view (12.3). -/
def peerWord (p : PeerRecord) : Fin 2 → Word
  | 0 => BitVec.ofNat 16 (p.state.code + 8 * p.state.shownLevel + 64 * p.silenceCount)
  | 1 =>
    match p.lastSequence with
    | none => 0
    | some q => BitVec.ofNat 16 (q.toNat + 256)

/-! ### Descriptor-build registers and window entries -/

/-- The nine descriptor-build words (12.3). -/
def buildWord (b : DescriptorBuild) : Fin 9 → Word
  | 0 => b.kind.setWidth 16
  | 1 => b.destination.setWidth 16
  | 2 => BitVec.ofNat 16 b.remoteAddress.toNat
  | 3 => BitVec.ofNat 16 (b.remoteAddress.toNat / 65536)
  | 4 => b.length
  | 5 => b.stagingOffset
  | 6 => b.urgency.setWidth 16
  | 7 => b.cookie
  | 8 => BitVec.ofNat 16 (flagBit b.notify)

/-- Two words of a 32-bit field, the low word first. -/
def longOf (lo hi : Word) : BitVec 32 := BitVec.ofNat 32 (lo.toNat + 65536 * hi.toNat)

/-- The low and the high word of a 32-bit field. -/
def lowWord (v : BitVec 32) : Word := BitVec.ofNat 16 v.toNat

/-- The high word of a 32-bit field. -/
def highWord (v : BitVec 32) : Word := BitVec.ofNat 16 (v.toNat / 65536)

/-- Store a word into a descriptor-build register: the listed bits are kept, the rest discarded (R196). -/
def setBuildWord (b : DescriptorBuild) (k : Fin 9) (v : Word) : DescriptorBuild :=
  match k with
  | 0 => { b with kind := v.setWidth 2 }
  | 1 => { b with destination := v.setWidth 5 }
  | 2 => { b with remoteAddress := longOf v (highWord b.remoteAddress) }
  | 3 => { b with remoteAddress := longOf (lowWord b.remoteAddress) v }
  | 4 => { b with length := v }
  | 5 => { b with stagingOffset := v }
  | 6 => { b with urgency := v.setWidth 3 }
  | 7 => { b with cookie := v }
  | 8 => { b with notify := bitFlag v.toNat 0 }

/-- The seven words of a window entry (12.3). -/
def windowWord (e : WindowEntry) : Fin 7 → Word
  | 0 =>
    BitVec.ofNat 16
      (flagBit e.valid + 2 * e.sizeExponent.toNat + 64 * e.access.toNat + 256 * e.widthCap.toNat +
        1024 * flagBit e.burst + 2048 * flagBit e.prefetchable)
  | 1 => lowWord e.spanBase
  | 2 => highWord e.spanBase
  | 3 => BitVec.ofNat 16 e.localBase.toNat
  | 4 => BitVec.ofNat 16 (e.localBase.toNat / 65536)
  | 5 => lowWord e.requesterMask
  | 6 => highWord e.requesterMask

/-- Store a word into a window entry: the listed bits are kept, the rest discarded (R196). -/
def setWindowWord (e : WindowEntry) (k : Fin 7) (v : Word) : WindowEntry :=
  match k with
  | 0 =>
    { e with
      valid := bitFlag v.toNat 0
      sizeExponent := BitVec.ofNat 5 (bitField v.toNat 1 5)
      access := BitVec.ofNat 2 (bitField v.toNat 6 2)
      widthCap := BitVec.ofNat 2 (bitField v.toNat 8 2)
      burst := bitFlag v.toNat 10
      prefetchable := bitFlag v.toNat 11 }
  | 1 => { e with spanBase := longOf v (highWord e.spanBase) }
  | 2 => { e with spanBase := longOf (lowWord e.spanBase) v }
  | 3 => { e with localBase := BitVec.ofNat 24 (v.toNat + 65536 * (e.localBase.toNat / 65536)) }
  | 4 => { e with localBase := BitVec.ofNat 24 (e.localBase.toNat % 65536 + 65536 * (v.toNat % 256)) }
  | 5 => { e with requesterMask := longOf v (highWord e.requesterMask) }
  | 6 => { e with requesterMask := longOf (lowWord e.requesterMask) v }

/-- The interrupt enables as read (12.3). -/
def enablesWord (completion notice : Bool) : Word := BitVec.ofNat 16 (flagBit completion + 2 * flagBit notice)

end Sys2Proof.Machine
end

