-- ==== Sys2Proof/Machine/Ops.lean ====
section
/-! DEFINITION. The operations every block shares: staging memory, the station parameters, notices, command results, the pending
beacon, and the transmit and answer registers. -/

namespace Sys2Proof.Machine

/-! ### Staging memory -/

/-- The byte staging memory holds at an address (R22). -/
def Memory.read : Memory → Nat → Byte
  | [], _ => 0
  | (k, v) :: m, a => if a = k then v else Memory.read m a

/-- Memory with one byte replaced, its entries kept strictly rising and without zeros. -/
def Memory.insert : Memory → Nat → Byte → Memory
  | [], a, b => if b = 0 then [] else [(a, b)]
  | (k, v) :: m, a, b =>
    if a < k then (if b = 0 then (k, v) :: m else (a, b) :: (k, v) :: m)
    else if a = k then (if b = 0 then m else (a, b) :: m)
    else (k, v) :: Memory.insert m a b

/-- Store one byte of staging memory; no byte exists past address 8191 (R22; log entry 5). -/
def Memory.store (m : Memory) (a : Nat) (b : Byte) : Memory :=
  if a < Config.stagingSize then Memory.insert m a b else m

/-- Store a run of bytes in address order. -/
def Memory.storeBytes : Memory → Nat → List Byte → Memory
  | m, _, [] => m
  | m, a, b :: bs => Memory.storeBytes (Memory.store m a b) (a + 1) bs

/-- The `n` bytes from an address, in address order. -/
def Memory.readBytes (m : Memory) (a n : Nat) : List Byte :=
  (List.range n).map fun k => Memory.read m (a + k)

/-- The canonical form: addresses strictly rising and inside staging memory, and no zero byte listed. -/
def Memory.wf : Memory → Bool
  | [] => true
  | (a, b) :: m => a < Config.stagingSize && b != 0 && m.all (fun c => a < c.1) && Memory.wf m

/-! ### Station parameters -/

/-- The value of a parameter, by its place in the order of R162. -/
def State.parameter (s : State) (p : Fin 10) : Nat := (s.controller.parameters[p]).toNat

/-- AW, the answer window in µs. -/
def State.aw (s : State) : Nat := s.parameter 0
/-- BP, the beacon period in ms. -/
def State.bp (s : State) : Nat := s.parameter 1
/-- CL, the context lifetime in ms. -/
def State.cl (s : State) : Nat := s.parameter 2
/-- TW, the target monitor time in µs. -/
def State.tw (s : State) : Nat := s.parameter 3
/-- TRL, the target retry limit. -/
def State.trl (s : State) : Nat := s.parameter 4
/-- BL, the busy limit. -/
def State.bl (s : State) : Nat := s.parameter 5
/-- HL, the held limit. -/
def State.hl (s : State) : Nat := s.parameter 6
/-- NL, the no-answer limit. -/
def State.nl (s : State) : Nat := s.parameter 7
/-- BB, the back-off base in µs. -/
def State.bb (s : State) : Nat := s.parameter 8
/-- HI, the hold interval in µs. -/
def State.hi (s : State) : Nat := s.parameter 9

/-- This station's own number (R160). -/
def State.own (s : State) : StationNo := s.controller.ownNumber

/-! ### Host results and notices -/

/-- What a host access answers: its effect `t`, unless RESETN is asserted, when the access is not taken (R187). -/
def State.hostTakes (s t : State) : StepResult := .next (if s.hostPort.resetAsserted then s else t)

/-- Leave a result in the command result register (R188). -/
def State.withResult (s : State) (r : CommandResult) : State := s.onHost fun h => { h with result := r }

/-- Post a notice, or lose it and set NOTICES-LOST when the queue is full (R183). -/
def State.post (s : State) (n : Notice) : State :=
  s.onNotices fun q =>
    if q.records.length < Config.noticeCapacity then { q with records := q.records ++ [n] } else { q with lost := true }

/-- Enter a station state. -/
def State.enter (s : State) (st : StationState) : State := s.onController fun c => { c with station := st }

/-! ### The transmit register, the answer register and the pending beacon -/

/-- Empty the transmit register; if its frame was contending, the station drives recessive for the rest of the contention
(R29, R132). -/
def State.emptyTransmit (s : State) : State :=
  s.onLink fun l => { l with tx := none, begun := false, contending := false }

/-- Empty the answer register (R136). -/
def State.emptyAnswer (s : State) : State := s.onLink fun l => { l with answer := none, answerBegun := false }

/-- Place an ANSWER in the answer register (R70). -/
def State.placeAnswer (s : State) (a : Answer) : State :=
  s.onLink fun l => { l with answer := some a, answerBegun := false }

/-- A BEACON of this station with the sequence and digest as they stand (R170). -/
def State.buildBeacon (s : State) (p : PendingBeacon) : OwnBeacon :=
  { state := p.state, wakeLevel := p.wakeLevel, sequence := s.controller.beaconSequence,
    digest := s.link.ownDigest.getD 0 }

/-- Queue a beacon: the content of a loaded BEACON whose transmission has not begun is replaced in the register, and otherwise
the pending beacon is set (R132, R170). -/
def State.queueBeacon (s : State) (p : PendingBeacon) : State :=
  match s.link.tx, s.link.begun with
  | some (.beacon _), false => s.onLink fun l => { l with tx := some (.beacon (s.buildBeacon p)) }
  | _, _ => s.onController fun c => { c with pendingBeacon := some p }

/-- Make the pending beacon absent (R170). -/
def State.dropPendingBeacon (s : State) : State := s.onController fun c => { c with pendingBeacon := none }

/-- A LEAVING beacon is pending or in the transmit register. -/
def State.leavingBeaconQueued (s : State) : Bool :=
  (match s.controller.pendingBeacon with
    | some p => p.state == .leaving
    | none => false) ||
  (match s.link.tx with
    | some (.beacon b) => b.state == .leaving
    | _ => false)

/-- Turn the receiver and the transmitter off: what is driven stops, both registers are emptied, a frame being received is
discarded, and the medium state is GAP until the next first gap has run (R129, R144). -/
def State.linkOff (s : State) : State :=
  s.onLink fun l =>
    { l with medium := .gap, gap := .first, layout := .contended, followTail := false, contending := false, tx := none,
             begun := false, answer := none, answerBegun := false }

/-- Clear the peer table (R157). -/
def State.clearPeers (s : State) : State := s.setPeers (clearedPeers s.own)

/-- Unlock the configuration; the own digest becomes none (R164, R140). -/
def State.unlock (s : State) : State :=
  (s.onController fun c => { c with locked := false }).onLink fun l => { l with ownDigest := none }

end Sys2Proof.Machine
end

