-- ==== Sys2Proof/Machine/Slots.lean ====
section
/-! DEFINITION. The shared operations of the requester over its slots: placement by a peer record (R10), the end of a transaction
and the release of the one behind it (R41, R42, R67), withdrawal (R29), the close of an exchange (R36), the delivery of peer
transitions (R55 to R58), and the request queue's head (R12). -/

namespace Sys2Proof.Machine

/-! ### Slots -/

/-- One slot of the outstanding table. -/
def State.slot (s : State) (i : Tag) : Slot := s.requester.slots[i]

/-- Replace one slot. -/
def State.setSlot (s : State) (i : Tag) (x : Slot) : State :=
  s.onRequester fun r => { r with slots := r.slots.set i x }

/-- Put one slot into a state, its other fields unchanged. -/
def State.setSlotState (s : State) (i : Tag) (st : SlotState) : State := s.setSlot i { s.slot i with state := st }

/-- The slot is FREE. -/
def SlotState.isFree : SlotState → Bool
  | .free => true
  | _ => false

/-- The slot is DONE. -/
def SlotState.isDone : SlotState → Bool
  | .done _ _ => true
  | _ => false

/-- The slot is BEHIND. -/
def SlotState.isBehind : SlotState → Bool
  | .behind => true
  | _ => false

/-- The slot is READY. -/
def SlotState.isReady : SlotState → Bool
  | .ready => true
  | _ => false

/-- The slot is PARKED. -/
def SlotState.isParked : SlotState → Bool
  | .parked => true
  | _ => false

/-- The slot is CONTENDING. -/
def SlotState.isContending : SlotState → Bool
  | .contending => true
  | _ => false

/-- The slot is AWAITING. -/
def SlotState.isAwaiting : SlotState → Bool
  | .awaiting _ => true
  | _ => false

/-- The active states of R20. -/
def SlotState.isActive : SlotState → Bool
  | .ready | .contending | .awaiting _ | .backoff _ | .parked => true
  | .free | .behind | .done _ _ => false

/-- The place in the done order of a DONE slot. -/
def SlotState.order : SlotState → Nat
  | .done _ n => n
  | _ => 0

/-- Some slot other than `i` holds the destination in an active state or in BEHIND (R9). -/
def State.heldByAnother (s : State) (i : Tag) (d : StationNo) : Bool :=
  (List.finRange 8).any fun j =>
    j != i && ((s.slot j).state.isActive || (s.slot j).state.isBehind) && (s.slot j).descriptor.destination == d

/-- Some slot holds the destination in an active state. -/
def State.destinationActive (s : State) (d : StationNo) : Bool :=
  (List.finRange 8).any fun j => (s.slot j).state.isActive && (s.slot j).descriptor.destination == d

/-- The slot whose exchange is in flight: AWAITING, or CONTENDING with its transmission begun (R28, R55). -/
def State.inFlight (s : State) (i : Tag) : Bool :=
  (s.slot i).state.isAwaiting || ((s.slot i).state.isContending && s.link.begun)

/-- The slot that an abort or LEAVING ends at once: BEHIND, READY, BACKOFF, PARKED, or CONTENDING with its transmission not
begun (R61, R63). -/
def State.waiting (s : State) (i : Tag) : Bool :=
  (s.slot i).state.isBehind || ((s.slot i).state.isActive && !s.inFlight i)

/-! ### Placement by a peer record -/

/-- Where the peer-state test sends a slot (R10). -/
inductive Placement where
  | ready
  | parked
  | ended (status : Status)
  deriving DecidableEq, Repr

/-- The peer-state test of R10. No slot meets SELF, since PUSH refuses the own number; the test answers as for an ABSENT
record there (log entry 6). -/
def placement (urgency : Urgency) (p : PeerState) : Placement :=
  match p with
  | .present => .ready
  | .quiet l => if urgency ≤ l then .parked else .ready
  | .absent => .ended .peerAbsent
  | .silent => .ended .peerSilent
  | .mismatched => .ended .peerMismatch
  | .self => .ended .peerAbsent

/-- A peer's record. -/
def State.peer (s : State) (d : StationNo) : PeerRecord := s.peers[d]

/-- The peer-state test on a slot. -/
def State.placementOf (s : State) (i : Tag) : Placement :=
  placement (s.slot i).descriptor.urgency (s.peer (s.slot i).descriptor.destination).state

/-! ### Ending slots -/

/-- Make a slot DONE with a pending status and the next place in the done order (R41). -/
def State.finishSlot (s : State) (i : Tag) (st : Status) : State :=
  (s.setSlotState i (.done st s.requester.doneNext)).onRequester fun r => { r with doneNext := r.doneNext + 1 }

/-- The BEHIND slot for a destination with the earliest dispatch sequence (R42). -/
def State.firstBehind (s : State) (d : StationNo) : Option Tag :=
  bestOf (fun j => (s.slot j).state.isBehind && (s.slot j).descriptor.destination == d)
    (fun i j => (s.slot i).dispatchSeq < (s.slot j).dispatchSeq)

/-- Release the BEHIND slots of a destination that no active slot holds, one at a time, for as long as the peer-state test
places the released one DONE (R42). -/
def State.releaseBehind : Nat → StationNo → State → State
  | 0, _, s => s
  | n + 1, d, s =>
    if s.destinationActive d then s
    else
      match s.firstBehind d with
      | none => s
      | some j =>
        match s.placementOf j with
        | .ready => s.setSlotState j .ready
        | .parked => s.setSlotState j .parked
        | .ended st => State.releaseBehind n d (s.finishSlot j st)

/-- A slot becomes DONE, and its destination's successor is released (R41, R42). -/
def State.endSlot (s : State) (i : Tag) (st : Status) : State :=
  State.releaseBehind 8 (s.slot i).descriptor.destination (s.finishSlot i st)

/-- Slot `i` was dispatched before slot `j`. -/
def State.dispatchedBefore (s : State) (i j : Tag) : Bool :=
  (s.slot i).dispatchSeq < (s.slot j).dispatchSeq ||
    ((s.slot i).dispatchSeq == (s.slot j).dispatchSeq && i < j)

/-- Make several slots DONE in one step, in consecutive places of the done order by dispatch sequence (R67). -/
def State.endSlots (s : State) (which : Tag → Bool) (st : Status) : State :=
  s.onRequester fun r =>
    { r with
      slots := Vector.ofFn fun i =>
        if which i then
          { s.slot i with
            state := .done st (r.doneNext + (List.finRange 8).countP fun j => which j && s.dispatchedBefore j i) }
        else s.slot i
      doneNext := r.doneNext + (List.finRange 8).countP which }

/-- Change the slots a test admits. -/
def State.markSlots (s : State) (which : Tag → Bool) (f : Slot → Slot) : State :=
  s.onRequester fun r => { r with slots := Vector.ofFn fun i => if which i then f (s.slot i) else s.slot i }

/-- Withdraw the frame of a CONTENDING slot whose transmission has not begun (R29). -/
def State.withdraw (s : State) (i : Tag) : State :=
  if (s.slot i).state.isContending && !s.link.begun then s.emptyTransmit else s

/-- Withdraw whatever frame of a slot the transmit register holds unbegun (R29). -/
def State.withdrawSegment (s : State) : State :=
  match s.link.tx, s.link.begun with
  | some (.segment _ _), false => s.emptyTransmit
  | _, _ => s

/-! ### The close of an exchange -/

/-- The course of an outcome, taken when the fourth step of R36 is reached. -/
inductive Course where
  /-- Placed by the destination's peer record (R31). -/
  | place
  /-- The first flag set, then placed by the destination's peer record (R39). -/
  | advance
  /-- BACKOFF for a number of µs (R46, R50, R51). -/
  | wait (duration : Nat)
  /-- DONE with a status (R46, R50, R51, R52). -/
  | finish (status : Status)
  deriving DecidableEq, Repr

/-- Place a slot by its destination's peer record (R31, R39, R53). -/
def State.placeSlot (s : State) (i : Tag) : State :=
  match s.placementOf i with
  | .ready => s.setSlotState i .ready
  | .parked => s.setSlotState i .parked
  | .ended st => s.endSlot i st

/-- Take the course of an outcome. -/
def State.takeCourse (s : State) (i : Tag) : Course → State
  | .place => s.placeSlot i
  | .advance => (s.setSlot i { s.slot i with firstFlag := true }).placeSlot i
  | .wait n => s.setSlotState i (.backoff n)
  | .finish st => s.endSlot i st

/-- The status of a deferred ending (R36). -/
def Deferred.status : Deferred → Status
  | .stationLeaving => .stationLeaving
  | .peerSilent => .peerSilent
  | .peerLeft => .peerLeft
  | .peerMismatch => .peerMismatch

/-- The close of an exchange, after the outcome's own bookkeeping (R36). -/
def State.closeExchange (s : State) (i : Tag) (c : Course) : State :=
  if (s.slot i).bytesDone = (s.slot i).descriptor.length then s.endSlot i .ok
  else if (s.slot i).abortMark then s.endSlot i .aborted
  else
    match (s.slot i).deferred with
    | some d => s.endSlot i d.status
    | none => s.takeCourse i c

/-! ### Peer transitions delivered to slots -/

/-- The slot a transition of a peer's record reaches (R55). -/
def State.reached (s : State) (d : StationNo) : Option Tag :=
  lowestOf fun j => (s.slot j).state.isActive && (s.slot j).descriptor.destination == d

/-- A transition to QUIET with a wake level, or a change of the level, on the slot it reaches (R56). -/
def State.quietReaches (s : State) (i : Tag) (level : Urgency) : State :=
  if s.inFlight i then s
  else if (s.slot i).descriptor.urgency ≤ level then (s.withdraw i).setSlotState i .parked
  else if (s.slot i).state.isParked then s.setSlotState i .ready
  else s

/-- A transition that ends transactions, on the slot it reaches: at once, or as a deferred ending of the exchange in flight,
where the first recorded one stays (R55, R58). -/
def State.endingReaches (s : State) (i : Tag) (d : Deferred) : State :=
  if s.inFlight i then s.setSlot i { s.slot i with deferred := some ((s.slot i).deferred.getD d) }
  else (s.withdraw i).endSlot i d.status

/-- Deliver a peer transition to the requester (R55 to R58, R156). -/
def State.deliverTransition (s : State) (d : StationNo) (before after : PeerState) : State :=
  match s.reached d with
  | none => s
  | some i =>
    match after with
    | .quiet level => s.quietReaches i level
    | .present =>
      match before with
      | .quiet _ => if (s.slot i).state.isParked then s.setSlotState i .ready else s
      | _ => s
    | .silent => s.endingReaches i .peerSilent
    | .absent => s.endingReaches i .peerLeft
    | .mismatched => s.endingReaches i .peerMismatch
    | .self => s

/-! ### The request queue -/

/-- The head of a queue is a FENCE. -/
def fenceAtHead : List Descriptor → Bool
  | d :: _ => d.kind == .fence
  | [] => false

/-- Hold a new request queue; the fence wait is set exactly while a FENCE is at the head (R12). -/
def State.setQueue (s : State) (q : List Descriptor) : State :=
  s.onRequester fun r => { r with queue := q, fenceWait := fenceAtHead q }

end Sys2Proof.Machine
end

