-- ==== Sys2Proof/Machine/Peers.lean ====
section
/-! DEFINITION. The shared operations of the peer monitor: a transition with its notice and its delivery (R155, R156), frames and
beacons heard (R149 to R152), and silence ageing (R153). -/

namespace Sys2Proof.Machine

/-- Replace a peer's record. -/
def State.setPeer (s : State) (d : StationNo) (p : PeerRecord) : State := s.setPeers (s.peers.set d p)

/-- The notice a transition into a state posts (R155). -/
def PeerState.notice : PeerState → NoticeKind
  | .present => .peerUp
  | .quiet _ => .peerQuiet
  | .silent => .peerSilent
  | .absent => .peerLeft
  | .mismatched => .peerMismatch
  | .self => .peerUp

/-- The detail of a transition's notice: the new wake level for QUIET, else 0 (R155). -/
def PeerState.noticeDetail : PeerState → Urgency
  | .quiet l => l
  | _ => 0

/-- Give a record a state; if that changes the state, or the wake level in QUIET, the transition posts its notice and is
delivered to the requester (R155, R156). -/
def State.peerBecomes (s : State) (d : StationNo) (after : PeerState) : State :=
  let before := (s.peer d).state
  if before = after then s
  else
    ((s.setPeer d { s.peer d with state := after }).post
      { kind := after.notice, station := d, detail := .number after.noticeDetail }).deliverTransition d before after

/-- Set a record's silence count to 0 (R149, R150). -/
def State.peerHeard (s : State) (d : StationNo) : State := s.setPeer d { s.peer d with silenceCount := 0 }

/-- A good SEGMENT or ANSWER from a station (R149). -/
def State.hearFrame (s : State) (d : StationNo) : State :=
  match (s.peer d).state with
  | .self => s
  | .absent | .silent => (s.peerHeard d).peerBecomes d .present
  | .present | .quiet _ | .mismatched => s.peerHeard d

/-- The record state a good BEACON calls for, if its state code names one (R150, R151, R152). -/
def State.beaconCallsFor (s : State) (b : Beacon) : Option PeerState :=
  match b.stateCode.toNat with
  | 0 => if s.link.ownDigest = some b.digest then some .present else some .mismatched
  | 1 => if s.link.ownDigest = some b.digest then some (.quiet b.wakeLevel) else some .mismatched
  | 2 => some .absent
  | _ => none

/-- A good BEACON from a station (R150 to R152). One whose state code names no state sets the silence count of a SILENT record to 0
too, as R150 says of every beacon, though R153 says that the count stays 3 while SILENT (DESIGN CHOICE, log entry 26). -/
def State.hearBeacon (s : State) (b : Beacon) : State :=
  match (s.peer b.source).state with
  | .self => s
  | _ =>
    let s1 := s.setPeer b.source { s.peer b.source with silenceCount := 0, lastSequence := some b.sequence }
    match s.beaconCallsFor b with
    | some st => s1.peerBecomes b.source st
    | none => s1

/-- The states the beacon period tick ages (R147). -/
def PeerState.aged : PeerState → Bool
  | .present | .quiet _ | .mismatched => true
  | .self | .absent | .silent => false

/-- The tick increases the silence count of every record it ages (R153). -/
def State.agePeers (s : State) : State :=
  s.setPeers (Vector.ofFn fun i =>
    if s.peers[i].state.aged then { s.peers[i] with silenceCount := s.peers[i].silenceCount + 1 } else s.peers[i])

/-- A record whose silence count has reached 3 and that is not SILENT yet (R153). -/
def State.silenceDue (s : State) (d : StationNo) : Bool :=
  (s.peer d).state.aged && Config.silenceLimit ≤ (s.peer d).silenceCount

/-- The lowest-numbered record that is due to become SILENT (R153). -/
def State.firstSilent (s : State) : Option StationNo := (List.finRange 32).find? s.silenceDue

/-- The lowest-numbered record that is due becomes SILENT (R153). -/
def State.silenceOne (s : State) : State :=
  match s.firstSilent with
  | none => s
  | some d => s.peerBecomes d .silent

/-- Every record that is due becomes SILENT, in order of station number (R153). -/
def State.silenceAll : Nat → State → State
  | 0, s => s
  | n + 1, s =>
    match s.firstSilent with
    | none => s
    | some _ => State.silenceAll n s.silenceOne

end Sys2Proof.Machine
end

