-- ==== Sys2Proof/Machine/Contexts.lean ====
section
/-! DEFINITION. The shared operations of the responder: admission against the window table (R99, R101 to R104), the context
table (R74 to R86), and the answers it places (R70, R88, R89). -/

namespace Sys2Proof.Machine

/-! ### Windows and admission -/

/-- The size of a window in bytes (R96). -/
def WindowEntry.size (e : WindowEntry) : Nat := 2 ^ e.sizeExponent.toNat

/-- The width a width-cap code names (12.3). -/
def widthOf (code : BitVec 2) : Option Nat :=
  match code.toNat with
  | 1 => some 1
  | 2 => some 2
  | 3 => some 4
  | _ => none

/-- An entry is well formed (R99). -/
def WindowEntry.wellFormed (e : WindowEntry) : Bool :=
  8 ≤ e.sizeExponent.toNat && e.sizeExponent.toNat ≤ 24 && e.spanBase.toNat % e.size == 0 &&
    e.localBase.toNat + e.size ≤ 2 ^ 24 && e.access != 0 && (widthOf e.widthCap).isSome

/-- The window covers a span address (R102). -/
def WindowEntry.covers (e : WindowEntry) (a : BitVec 32) : Bool :=
  e.valid && e.spanBase.toNat ≤ a.toNat && a.toNat < e.spanBase.toNat + e.size

/-- The window's access admits an op (R103). -/
def WindowEntry.admitsOp (e : WindowEntry) (op : Op) : Bool :=
  match op with
  | .read => bitFlag e.access.toNat 0
  | .write => bitFlag e.access.toNat 1

/-- The window's requester mask names a station (R103). -/
def WindowEntry.admitsStation (e : WindowEntry) (n : StationNo) : Bool := bitFlag e.requesterMask.toNat n.val

/-- The bytes of a segment that lie inside the window (R104). -/
def WindowEntry.lengthInside (e : WindowEntry) (g : Segment) : Nat :=
  min g.length.toNat (e.spanBase.toNat + e.size - g.address.toNat)

/-- What admission makes of a segment (R101). -/
inductive Admission where
  | refused (c : Cause)
  | admitted (window : EntryNo) (lengthInWindow : Nat)
  deriving DecidableEq, Repr

/-- Admission of a segment against the window table (R101 to R104). -/
def State.admission (s : State) (g : Segment) : Admission :=
  match lowestOf fun n => s.windows[n].covers g.address with
  | none => .refused .noWindow
  | some n =>
    if !s.windows[n].admitsOp g.op then .refused .access
    else if !s.windows[n].admitsStation g.source then .refused .denied
    else .admitted n (s.windows[n].lengthInside g)

/-! ### Answers -/

/-- An ANSWER to the segment of a given key and offset (R70). -/
def State.answerOf (s : State) (destination : StationNo) (tag : Tag) (generation : Generation) (offset : Byte)
    (code : AnswerCode) (cause : BitVec 4) (count : Byte) (data : List Byte) : Answer :=
  { destination := destination, source := s.own, tag := tag, generation := generation, offset := offset, code := code,
    cause := cause, count := count, data := data }

/-- Answer a segment BUSY at once (R70). -/
def State.answerBusy (s : State) (g : Segment) : State :=
  s.placeAnswer (s.answerOf g.source g.tag g.generation g.offset .busy 0 0 [])

/-- Answer a segment REFUSED with a cause at once (R70). -/
def State.answerRefused (s : State) (g : Segment) (c : Cause) : State :=
  s.placeAnswer (s.answerOf g.source g.tag g.generation g.offset .refused (BitVec.ofNat 4 c.code) 0 [])

/-- The HELD answer to the segment a context serves (R89). -/
def State.heldAnswer (s : State) (c : Context) : Answer :=
  s.answerOf c.requester c.tag c.generation c.offset .held 0 0 []

/-- The answer carrying a context's result: a READ's TAKEN carries the first count bytes of the data buffer (R70). -/
def State.resultAnswer (s : State) (c : Context) (r : RunResult) : Answer :=
  match r with
  | .taken n =>
    s.answerOf c.requester c.tag c.generation c.offset .taken 0 (BitVec.ofNat 8 n)
      (match c.op with
        | .read => c.data.toList.take n
        | .write => [])
  | .refused cause =>
    s.answerOf c.requester c.tag c.generation c.offset .refused (BitVec.ofNat 4 cause.code) 0 []

/-! ### The context table -/

/-- One entry of the context table. -/
def State.context (s : State) (j : EntryNo) : Context := s.responder.contexts[j]

/-- Replace one entry. -/
def State.setContext (s : State) (j : EntryNo) (c : Context) : State :=
  s.onResponder fun r => { r with contexts := r.contexts.set j c }

/-- The entry is FREE. -/
def ContextState.isFree : ContextState → Bool
  | .free => true
  | _ => false

/-- The entry is QUEUED. -/
def ContextState.isQueued : ContextState → Bool
  | .queued => true
  | _ => false

/-- The entry is CYCLING. -/
def ContextState.isCycling : ContextState → Bool
  | .cycling => true
  | _ => false

/-- The entry is ANSWERED. -/
def ContextState.isAnswered : ContextState → Bool
  | .answered _ _ _ => true
  | _ => false

/-- The place in the answering order of an ANSWERED entry. -/
def ContextState.answeredTime : ContextState → Nat
  | .answered _ t _ => t
  | _ => 0

/-- A freed entry: it holds no result and no timer, and no lookup finds it (R75). The other fields keep their values (DESIGN CHOICE, log
entry 30); the data buffer is the one R86 leaves unchanged for a READ created there. -/
def Context.freed (c : Context) : Context := { c with state := .free, orphan := .clear, answerOwed := false }

/-- Free an entry. -/
def State.freeContext (s : State) (j : EntryNo) : State := s.setContext j (s.context j).freed

/-- Post CONTEXT-DROPPED for an entry (R78, R90, R92). -/
def State.postDropped (s : State) (j : EntryNo) (why : DropReason) : State :=
  let c := s.context j
  s.post { kind := .contextDropped, station := c.requester,
           detail := .dropped c.tag c.generation why c.writePerformed }

/-- The context held for a requester and tag; an orphan holds no key (R77). -/
def State.findContext (s : State) (requester : StationNo) (tag : Tag) : Option EntryNo :=
  lowestOf fun j =>
    !(s.context j).state.isFree && (s.context j).orphan == .clear && (s.context j).requester == requester &&
      (s.context j).tag == tag

/-- Discard a context by case 1 or case 5 (R78). -/
def State.discardContext (s : State) (j : EntryNo) : State :=
  match (s.context j).state with
  | .free => s
  | .queued => s.freeContext j
  | .cycling => s.setContext j { s.context j with orphan := .replaced, answerOwed := false }
  | .ready _ _ => (s.postDropped j .replaced).freeContext j
  | .answered _ _ _ => s.freeContext j

/-- Discard a context on entry to ISOLATED: a CYCLING one becomes a silent orphan, unless it already is an orphan, and any other
is freed, without a notice (R78, R92, R94). -/
def Context.isolate (c : Context) : Context :=
  match c.state with
  | .cycling => { c with orphan := if c.orphan = .clear then .isolated else c.orphan, answerOwed := false }
  | _ => c.freed

/-- Clear the context table: every entry FREE but for an orphan still cycling (R94). -/
def State.clearContexts (s : State) : State :=
  s.onResponder fun r => { r with contexts := Vector.ofFn fun j => (s.context j).isolate }

/-- The entry the context-table arbiter gives: the lowest FREE one, else the least recently ANSWERED one (R85). -/
def State.entryFor (s : State) : Option EntryNo :=
  match lowestOf fun j => (s.context j).state.isFree with
  | some j => some j
  | none =>
    bestOf (fun j => (s.context j).state.isAnswered)
      (fun i j => (s.context i).state.answeredTime < (s.context j).state.answeredTime)

/-- The data buffer at creation: a WRITE's data bytes from the first; for a READ unchanged (R86). Past a WRITE's data bytes the buffer
keeps what the entry held (DESIGN CHOICE, log entry 27). -/
def bufferAtCreation (old : Vector Byte 16) (g : Segment) : Vector Byte 16 :=
  match g.op with
  | .read => old
  | .write => Vector.ofFn fun k => if k.val < g.data.length then g.data.getD k.val 0 else old[k]

/-- Create the context of a segment in an entry; its answer is owed and the hold-point timer starts (R86, R87). -/
def State.createContext (s : State) (j : EntryNo) (g : Segment) (window : EntryNo) (len : Nat) : State :=
  s.onResponder fun r =>
    { contexts := r.contexts.set j
        { state := .queued, requester := g.source, tag := g.tag, generation := g.generation, op := g.op,
          offset := g.offset, address := g.address, window := window, lengthInWindow := len, bytesMoved := 0,
          data := bufferAtCreation r.contexts[j].data g, writePerformed := false, orphan := .clear,
          answerOwed := true, creation := r.creationNext }
      holdTimer := some (s.aw / 2)
      creationNext := r.creationNext + 1
      answeredNext := r.answeredNext }

/-- Give an admitted segment its entry, or answer BUSY (R84, R85). -/
def State.takeAdmitted (s : State) (g : Segment) (entry : Option EntryNo) (window : EntryNo) (len : Nat) : State :=
  match entry with
  | some j => s.createContext j g window len
  | none =>
    match s.entryFor with
    | some j => s.createContext j g window len
    | none => s.answerBusy g

/-- Treat a segment as new, in the entry it superseded if there is one (R84). -/
def State.treatAsNew (s : State) (g : Segment) (entry : Option EntryNo) : State :=
  match s.admission g with
  | .refused c =>
    (match entry with
      | some j => s.freeContext j
      | none => s).answerRefused g c
  | .admitted w len => s.takeAdmitted g entry w len

/-- Answer a repeat from a stored result; the context is ANSWERED at a new answered time and its lifetime restarts
(R80, R90). -/
def State.answerStored (s : State) (j : EntryNo) (r : RunResult) : State :=
  let c := s.context j
  ((s.placeAnswer (s.resultAnswer c r)).setContext j
      { c with state := .answered r s.responder.answeredNext s.cl, answerOwed := false }).onResponder
    fun q => { q with answeredNext := q.answeredNext + 1 }

/-- A repeat of the segment a context serves: case 2 (R80). -/
def State.serveRepeat (s : State) (g : Segment) (j : EntryNo) : State :=
  let c := s.context j
  if g.op ≠ c.op then s.answerRefused g .malformed
  else
    match c.state with
    | .free => s
    | .queued | .cycling =>
      (s.setContext j { c with answerOwed := true }).onResponder fun r => { r with holdTimer := some (s.aw / 2) }
    | .ready r _ => s.answerStored j r
    | .answered r _ _ => s.answerStored j r

/-- A larger offset under the context's key: case 3 (R81). -/
def State.supersede (s : State) (g : Segment) (j : EntryNo) : State :=
  match (s.context j).state with
  | .free => s
  | .queued | .cycling => s.answerBusy g
  | .ready _ _ => (s.postDropped j .replaced).treatAsNew g (some j)
  | .answered _ _ _ => s.treatAsNew g (some j)

/-- No context is held: case 6 (R83). -/
def State.serveUnknown (s : State) (g : Segment) : State :=
  if g.firstFlag then s.treatAsNew g none
  else
    match s.admission g with
    | .refused c => s.answerRefused g c
    | .admitted w len =>
      if g.op = .read ∧ s.windows[w].prefetchable then s.takeAdmitted g none w len
      else s.answerRefused g .replayLost

/-- The lookup of a segment (R77). -/
def State.lookup (s : State) (g : Segment) : State :=
  match s.findContext g.source g.tag with
  | none => if g.firstFlag ∧ g.offset = 0 then s.treatAsNew g none else s.serveUnknown g
  | some j =>
    let c := s.context j
    if g.firstFlag ∧ g.offset = 0 then (s.discardContext j).treatAsNew g none
    else if c.generation = g.generation then
      if c.offset = g.offset then s.serveRepeat g j
      else if c.offset.toNat < g.offset.toNat then s.supersede g j
      else s.answerRefused g .malformed
    else (s.discardContext j).serveUnknown g

/-! ### Delivery of a segment -/

/-- The segment's fields disagree with one another (R72). -/
def Segment.malformed (g : Segment) : Bool :=
  g.length.toNat == 0 || Config.segmentBytes < g.length.toNat || 256 < g.offset.toNat + g.length.toNat ||
    (match g.op with
      | .write => g.data.length != g.length.toNat
      | .read => !g.data.isEmpty)

/-- The segment is a continuation (R73). -/
def State.continuation (s : State) (g : Segment) : Bool :=
  !g.firstFlag ||
    (g.offset != 0 &&
      match s.findContext g.source g.tag with
      | some j => (s.context j).generation == g.generation
      | none => false)

/-- The wake report: ACTIVE is entered, WOKEN posted and an ACTIVE beacon queued (R73, R168). -/
def State.wakeReport (s : State) (g : Segment) : State :=
  ((s.enter .active).post { kind := .woken, station := g.source, detail := .number g.urgency }).queueBeacon
    { state := .active, wakeLevel := 0 }

/-- Deliver a good SEGMENT addressed to this station to the responder (R69, R71 to R73). -/
def State.deliverSegment (s : State) (g : Segment) : State :=
  match s.controller.station with
  | .offline | .isolated | .listening => s
  | .leaving => s.answerBusy g
  | .active => if g.malformed then s.answerRefused g .malformed else s.lookup g
  | .quiet level =>
    if g.malformed then s.answerRefused g .malformed
    else if s.continuation g then s.lookup g
    else if level < g.urgency then (s.wakeReport g).lookup g
    else s.answerBusy g

/-! ### The end of a reservation -/

/-- The reservation of a SEGMENT ends: an answer still in the register is not sent, no answer is owed any more, and the
hold-point timer stops (R87, R136). -/
def State.endReservation (s : State) : State :=
  s.emptyAnswer.onResponder fun r =>
    { r with contexts := Vector.ofFn fun j => { s.context j with answerOwed := false }, holdTimer := none }

/-! ### The leaving sequence -/

/-- The end condition of LEAVING (R172). -/
def State.leavingEnds (s : State) : Bool :=
  s.controller.station == .leaving &&
    (List.finRange 8).all (fun i => !(s.slot i).state.isAwaiting && !(s.slot i).state.isContending) &&
    (List.finRange 8).all (fun j => !(s.context j).state.isQueued && !(s.context j).state.isCycling)

/-- Queue the LEAVING beacon once the end condition holds (R172). -/
def State.checkLeaving (s : State) : State :=
  if s.leavingEnds && !s.leavingBeaconQueued then s.queueBeacon { state := .leaving, wakeLevel := 0 } else s

end Sys2Proof.Machine
end

