-- ==== Sys2Proof/Machine/Bus.lean ====
section
/-! DEFINITION. The shared operations of the target bus unit: forming a cycle (R113, R114), starting an attempt (R115), moving
the bytes of an acknowledge (R117), and the end of a run with its hand-over to the responder (R88, R92, R121, R122). -/

namespace Sys2Proof.Machine

/-- The largest of 4, 2 and 1 that is at most the width cap, at most the bytes remaining, and a divisor of the local address
(R114). -/
def cycleSize (widthCap remaining address : Nat) : Nat :=
  if 4 ≤ widthCap ∧ 4 ≤ remaining ∧ address % 4 = 0 then 4
  else if 2 ≤ widthCap ∧ 2 ≤ remaining ∧ address % 2 = 0 then 2
  else 1

/-- The local address of a context's next byte (R105, R113). -/
def localAddress (h : HeldWindow) (c : Context) : BitVec 24 :=
  BitVec.ofNat 24 (h.localBase.toNat + (c.address.toNat - h.spanBase.toNat) + c.bytesMoved)

/-- The cycle at a context's bytes moved (R113, R114). -/
def formCycle (h : HeldWindow) (c : Context) : Cycle :=
  let a := localAddress h c
  { address := a, size := cycleSize h.widthCap (c.lengthInWindow - c.bytesMoved) a.toNat, write := c.op == .write,
    attempt := 0 }

/-- The size output code (12.2). -/
def sizeCode (size : Nat) : BitVec 2 := if size = 4 then 2 else if size = 2 then 1 else 0

/-- The byte lanes a WRITE cycle drives; a lane outside the cycle, and every lane of a READ cycle, carries no defined data
(R115, 12.2). -/
def drivenLanes (y : Cycle) (c : Context) : Vector (Option Byte) 4 :=
  let first := y.address.toNat % 4
  Vector.ofFn fun k =>
    if y.write ∧ first ≤ k.val ∧ k.val < first + y.size then
      some (c.data.toList.getD (c.bytesMoved + (k.val - first)) 0)
    else none

/-- Start an attempt of a cycle: drive address, size, direction and any write data, assert the strobes and start the target
monitor timer (R115). -/
def State.startCycle (s : State) (y : Cycle) (c : Context) : State :=
  s.onTarget fun t =>
    { t with
      cycle := some { y with attempt := t.retryCount + 1 }
      monitor := .termination s.tw
      pins := { strobe := true, address := y.address, sizeCode := sizeCode y.size, direction := y.write,
                lanes := drivenLanes y c } }

/-- Start the next attempt of the run: a further attempt of the cycle a retry request left, else the first of a new cycle
(R113 to R115, R118). -/
def State.startAttempt (s : State) : State :=
  match s.target.current, s.target.held with
  | some j, some h =>
    match s.target.cycle with
    | some y => s.startCycle y (s.context j)
    | none => s.startCycle (formCycle h (s.context j)) (s.context j)
  | _, _ => s

/-- Negate the strobes at a termination (R116) and stop driving write data. R110 says the latter of the idle unit only; between the
cycles and attempts of a run that goes on it is the model's choice (DESIGN CHOICE, log entry 25). -/
def State.idlePins (s : State) : State := s.onTarget fun t => { t with pins := t.pins.idle }

/-- The unit becomes idle; the monitor goes on only as the wait for the last termination's withdrawal (R110, R122). -/
def State.idleUnit (s : State) : State :=
  s.onTarget fun t => { t with current := none, held := none, cycle := none, retryCount := 0 }

/-- The responder acts on a finished run: an orphan's result is dropped and its entry freed, an answer still owed is placed with
the result, and otherwise the context becomes READY (R88, R92). -/
def State.cyclesEnd (s : State) (j : EntryNo) (r : RunResult) : State :=
  let c := s.context j
  match c.orphan with
  | .replaced => (s.postDropped j .replaced).freeContext j
  | .isolated => s.freeContext j
  | .clear =>
    if c.answerOwed then (s.onResponder fun q => { q with holdTimer := none }).answerStored j r
    else s.setContext j { c with state := .ready r s.cl }

/-- A run ends with its result: the unit becomes idle and the context is handed back (R121, R122). -/
def State.endRun (s : State) (j : EntryNo) (r : RunResult) : State := (s.idleUnit.cyclesEnd j r).checkLeaving

/-- The result of a run that a failing cycle ends (R121). -/
def failedResult (bytesMoved : Nat) (cause : Cause) : RunResult :=
  if bytesMoved = 0 then .refused cause else .taken bytesMoved

/-- A cycle fails and its run ends (R118, R119, R120, R121). -/
def State.failRun (s : State) (j : EntryNo) (cause : Cause) : State :=
  s.endRun j (failedResult (s.context j).bytesMoved cause)

/-- The byte on a lane of the data lines (12.2). -/
def laneByte (data : BitVec 32) (lane : Nat) : Byte := BitVec.ofNat 8 (data.toNat / 2 ^ (8 * lane))

/-- The data buffer after `n` bytes of a READ cycle are collected from its lowest lanes (R117). -/
def collected (buffer : Vector Byte 16) (y : Cycle) (bytesMoved n : Nat) (data : BitVec 32) : Vector Byte 16 :=
  Vector.ofFn fun k =>
    if bytesMoved ≤ k.val ∧ k.val < bytesMoved + n then
      laneByte data (y.address.toNat % 4 + (k.val - bytesMoved))
    else buffer[k]

/-- The context after an acknowledge that moves `n` bytes of its cycle (R117). -/
def Context.acknowledged (c : Context) (y : Cycle) (n : Nat) (data : BitVec 32) : Context :=
  { c with
    bytesMoved := c.bytesMoved + n
    data := if y.write then c.data else collected c.data y c.bytesMoved n data
    writePerformed := c.writePerformed || y.write }

/-- The unit restarts the monitor as the wait for the withdrawal of the termination just taken (R120). -/
def State.awaitWithdrawal (s : State) (runGoesOn : Bool) : State :=
  s.onTarget fun t => { t with monitor := .withdrawal s.tw runGoesOn }

/-- What a termination counts as (R116). -/
inductive TerminationKind where
  | acknowledge (width : Nat)
  | retry
  | error
  deriving DecidableEq, Repr

/-- The table of R116: TERR before TRTY before TACK; a TACK whose width code names no width is an error. -/
def terminationKind (t : Termination) : Option TerminationKind :=
  if t.terr then some .error
  else if t.trty then some .retry
  else
    match t.tack with
    | none => none
    | some code =>
      match widthOf code with
      | some w => some (.acknowledge w)
      | none => some .error

/-- An acknowledge of width `w` (R117), and what R121 makes of the run. -/
def State.takeAcknowledge (s : State) (j : EntryNo) (h : HeldWindow) (y : Cycle) (w : Nat) (data : BitVec 32) : State :=
  let c := (s.context j).acknowledged y (min y.size w) data
  let s1 := (s.setContext j c).onTarget fun t => { t with cycle := none, retryCount := 0 }
  if h.burst ∧ c.bytesMoved < c.lengthInWindow then s1.awaitWithdrawal true
  else (s1.awaitWithdrawal false).endRun j (.taken c.bytesMoved)

/-- A retry request (R118). With a retry limit above 15, which only OFFLINE can hold, the count goes on past the 16 of R110 (DEDUCED, log
entry 28). -/
def State.takeRetry (s : State) (j : EntryNo) : State :=
  if s.trl < s.target.retryCount + 1 then (s.awaitWithdrawal false).failRun j .targetRetry
  else (s.onTarget fun t => { t with retryCount := t.retryCount + 1 }).awaitWithdrawal true

end Sys2Proof.Machine
end

