-- ==== Sys2Proof/Machine/Frames.lean ====
section
/-! DEFINITION. The bytes of the three frames (R127, R138, R195 and spec/12_layouts.md, 12.1): how a frame of this station is
sent and how a frame heard is checked and read. -/

namespace Sys2Proof.Machine

/-! ### The CRC and the digest -/

/-- One bit of the CRC register (R138). -/
def crcBit (r : Word) (b : Bool) : Word :=
  if r.msb != b then (r <<< 1) ^^^ 0x1021 else r <<< 1

/-- One byte of the CRC, most significant bit first (R138). -/
def crcByte (r : Word) (b : Byte) : Word :=
  (List.range 8).foldl (fun r k => crcBit r (b.getMsbD k)) r

/-- The CRC over a run of bytes (R138). -/
def crc16 (bs : List Byte) : Word := bs.foldl crcByte 0xFFFF

/-- The configuration digest over AW, BP, the rate code and the protocol revision (R140). -/
def configDigest (aw bp : Byte) (rate : RateCode) : Word :=
  crc16 [aw, bp, BitVec.ofNat 8 rate.val, Config.protocolRevision]

/-! ### Sending -/

/-- A station-number byte, its upper three bits 0 (R127). -/
def stationByte (n : StationNo) : Byte := BitVec.ofNat 8 n.val

/-- The tag and generation byte, its spare bit 0 (12.1). -/
def tagByte (t : Tag) (g : Generation) : Byte := BitVec.ofNat 8 (g.val * 8 + t.val)

/-- The contention code of R135: 7 minus the effective urgency, then the station number. -/
def contentionCode (effective : Urgency) (own : StationNo) : Byte :=
  BitVec.ofNat 8 ((7 - effective.val) * 32 + own.val)

/-- The code of an op in a SEGMENT's kind byte (12.1). -/
def Op.code : Op → Nat
  | .read => 0
  | .write => 1

/-- A SEGMENT's kind byte (12.1). -/
def segmentKind (g : Segment) : Byte :=
  BitVec.ofNat 8 (64 + 32 * g.op.code + 16 * flagBit g.firstFlag + 2 * g.urgency.val)

/-- The code of an answer in an ANSWER's kind byte (12.1). -/
def AnswerCode.code : AnswerCode → Nat
  | .taken => 0
  | .held => 1
  | .busy => 2
  | .refused => 3

/-- An ANSWER's kind byte (12.1). -/
def answerKind (a : Answer) : Byte := BitVec.ofNat 8 (128 + 16 * a.code.code + a.cause.toNat)

/-- The code of a state in a BEACON's kind byte (12.1). -/
def BeaconState.code : BeaconState → Nat
  | .active => 0
  | .quiet => 1
  | .leaving => 2

/-- A BEACON's kind byte (12.1). -/
def beaconKind (b : OwnBeacon) : Byte := BitVec.ofNat 8 (192 + 16 * b.state.code + 2 * b.wakeLevel.val)

/-- The four bytes of a span address, the least significant first (12.1). -/
def addressBytes (a : BitVec 32) : List Byte :=
  [BitVec.ofNat 8 a.toNat, BitVec.ofNat 8 (a.toNat / 256), BitVec.ofNat 8 (a.toNat / 65536),
    BitVec.ofNat 8 (a.toNat / 16777216)]

/-- A whole frame from the bytes the CRC covers: the sync byte before them, the CRC after them, low byte first (12.1). -/
def frameOf (body : List Byte) : List Byte :=
  Config.syncByte :: (body ++ [lowByte (crc16 body), highByte (crc16 body)])

/-- The bytes of a SEGMENT sent with a contention code (12.1). -/
def segmentFrame (code : Byte) (g : Segment) : List Byte :=
  frameOf
    ([code, segmentKind g, stationByte g.destination, stationByte g.source, tagByte g.tag g.generation, g.offset] ++
      addressBytes g.address ++ [g.length] ++ g.data)

/-- The bytes of an ANSWER (12.1). -/
def answerFrame (a : Answer) : List Byte :=
  frameOf
    ([answerKind a, stationByte a.destination, stationByte a.source, tagByte a.tag a.generation, a.offset, a.count] ++
      a.data)

/-- The bytes of a BEACON of station `own` sent with a contention code (12.1, R170). -/
def beaconFrame (code : Byte) (own : StationNo) (b : OwnBeacon) : List Byte :=
  frameOf [code, beaconKind b, stationByte own, b.sequence, lowByte b.digest, highByte b.digest]

/-! ### Receiving -/

/-- A good frame. -/
inductive Frame where
  | segment (g : Segment)
  | answer (a : Answer)
  | beacon (b : Beacon)
  deriving DecidableEq, Repr

/-- The source field of a good frame. -/
def Frame.source : Frame → StationNo
  | .segment g => g.source
  | .answer a => a.source
  | .beacon b => b.source

/-- What the reception checks make of a frame heard (R137): one that fails, a good one of the wrong kind for its place with the
number in its source field, or a good one. -/
inductive Reading where
  | failed
  | misplaced (source : StationNo)
  | good (f : Frame)
  deriving DecidableEq, Repr

/-- The place of the kind byte: after the contention code in the contended layout, after the sync byte in the answer layout
(R130). -/
def Layout.kindPlace : Layout → Nat
  | .contended => 2
  | .replySlot => 1
  | .lateReply => 1

/-- The byte at a place of a frame; a frame of fitting length has every byte that is read. -/
def byteAt (bs : List Byte) (k : Nat) : Byte := bs.getD k 0

/-- The number of characters fits the kind (R137). -/
def lengthFits (kind n : Nat) : Bool :=
  match kind with
  | 1 => 14 ≤ n && n ≤ 30
  | 2 => 9 ≤ n && n ≤ 25
  | 3 => n == 9
  | _ => false

/-- The received CRC field, low byte first (R138). -/
def receivedCrc (bs : List Byte) : Word :=
  wordOf (byteAt bs (bs.length - 2)) (byteAt bs (bs.length - 1))

/-- The bytes the CRC covers: all after the sync byte, up to the CRC field (R138). -/
def coveredBytes (bs : List Byte) : List Byte := (bs.take (bs.length - 2)).drop 1

/-- The five checks of R137, over the layout the frame is read in. -/
def passesChecks (l : Layout) (h : Heard) : Bool :=
  let kind := bitField (byteAt h.bytes l.kindPlace).toNat 6 2
  !h.framingError && byteAt h.bytes 0 == Config.syncByte && kind != 0 && lengthFits kind h.bytes.length &&
    crc16 (coveredBytes h.bytes) == receivedCrc h.bytes

/-- The data bytes of a frame, from place `k` up to the CRC field. -/
def dataFrom (bs : List Byte) (k : Nat) : List Byte := (bs.take (bs.length - 2)).drop k

/-- A station number carried in a byte: its low 5 bits (R127). -/
def stationAt (bs : List Byte) (k : Nat) : StationNo := Fin.ofNat 32 (byteAt bs k).toNat

/-- The span address from place `k`, least significant byte first (12.1). -/
def addressAt (bs : List Byte) (k : Nat) : BitVec 32 :=
  BitVec.ofNat 32
    ((byteAt bs k).toNat + 256 * (byteAt bs (k + 1)).toNat + 65536 * (byteAt bs (k + 2)).toNat +
      16777216 * (byteAt bs (k + 3)).toNat)

/-- A SEGMENT read in the contended layout; spare bits are not looked at (12.1, R195). -/
def readSegment (bs : List Byte) : Segment :=
  let kind := (byteAt bs 2).toNat
  let tg := (byteAt bs 5).toNat
  { op := if bitFlag kind 5 then .write else .read
    firstFlag := bitFlag kind 4
    urgency := Fin.ofNat 8 (bitField kind 1 3)
    destination := stationAt bs 3
    source := stationAt bs 4
    tag := Fin.ofNat 8 (bitField tg 0 3)
    generation := Fin.ofNat 16 (bitField tg 3 4)
    offset := byteAt bs 6
    address := addressAt bs 7
    length := byteAt bs 11
    data := dataFrom bs 12 }

/-- The answer code in bits 5 and 4 of an ANSWER's kind byte (12.1). -/
def answerCodeOf (kind : Nat) : AnswerCode :=
  match bitField kind 4 2 with
  | 0 => .taken
  | 1 => .held
  | 2 => .busy
  | _ => .refused

/-- An ANSWER read in the answer layout (12.1). -/
def readAnswer (bs : List Byte) : Answer :=
  let kind := (byteAt bs 1).toNat
  let tg := (byteAt bs 4).toNat
  { destination := stationAt bs 2
    source := stationAt bs 3
    tag := Fin.ofNat 8 (bitField tg 0 3)
    generation := Fin.ofNat 16 (bitField tg 3 4)
    offset := byteAt bs 5
    code := answerCodeOf kind
    cause := BitVec.ofNat 4 (bitField kind 0 4)
    count := byteAt bs 6
    data := dataFrom bs 7 }

/-- A BEACON read in the contended layout (12.1). -/
def readBeacon (bs : List Byte) : Beacon :=
  let kind := (byteAt bs 2).toNat
  { stateCode := BitVec.ofNat 2 (bitField kind 4 2)
    wakeLevel := Fin.ofNat 8 (bitField kind 1 3)
    source := stationAt bs 3
    sequence := byteAt bs 4
    digest := wordOf (byteAt bs 5) (byteAt bs 6) }

/-- The source field of a frame of the wrong kind for its place: the fields follow the kind byte in the order R127 gives its
kind (DEDUCED, log entry 7). -/
def misplacedSource (l : Layout) (kind : Nat) (bs : List Byte) : StationNo :=
  stationAt bs (if kind = 3 then l.kindPlace + 1 else l.kindPlace + 2)

/-- A frame heard, checked and read in the layout its place on the line gives it (R130, R137). -/
def readFrame (l : Layout) (h : Heard) : Reading :=
  if passesChecks l h then
    let kind := bitField (byteAt h.bytes l.kindPlace).toNat 6 2
    match l, kind with
    | .contended, 1 => .good (.segment (readSegment h.bytes))
    | .contended, 3 => .good (.beacon (readBeacon h.bytes))
    | .replySlot, 2 => .good (.answer (readAnswer h.bytes))
    | .lateReply, 2 => .good (.answer (readAnswer h.bytes))
    | _, _ => .misplaced (misplacedSource l kind h.bytes)
  else .failed

end Sys2Proof.Machine
end

