-- ==== Sys2Proof/Machine/Station.lean ====
section
/-! DEFINITION. The shared operations of the station controller: JOIN's checks (R99, R100, R161, R162), entry to ISOLATED (R173),
the end of the leaving sequence (R172), the beacon period tick and the end of listening (R165, R169), the soft-reset values
(R175 and the rules it names), and the consequences that an earlier event has made due. -/

namespace Sys2Proof.Machine

/-! ### JOIN -/

/-- The range JOIN checks for each station parameter, in the order of R162 (R161). -/
def parameterRange : Fin 10 → Nat × Nat
  | 0 => (4, 255)
  | 1 => (1, 255)
  | 2 => (1, 255)
  | 3 => (1, 255)
  | 4 => (0, 15)
  | 5 => (1, 15)
  | 6 => (1, 255)
  | 7 => (1, 15)
  | 8 => (8, 255)
  | 9 => (8, 255)

/-- A parameter is inside its range (R161). -/
def State.parameterInRange (s : State) (p : Fin 10) : Bool :=
  (parameterRange p).1 ≤ s.parameter p && s.parameter p ≤ (parameterRange p).2

/-- The fault JOIN finds: the first parameter out of range, else the lowest-numbered valid entry that is not well formed
(R100, R162). -/
def State.joinFault (s : State) : ConfigFault :=
  match (List.finRange 10).find? fun p => !s.parameterInRange p with
  | some p => .parameter p
  | none =>
    match lowestOf fun n => s.windows[n].valid && !s.windows[n].wellFormed with
    | some n => .windowEntry n
    | none => .none

/-- The digest over the locked AW and BP and the sampled rate (R140). -/
def State.digest (s : State) : Word := configDigest s.controller.parameters[0] s.controller.parameters[1] s.link.rate

/-- The changes of a JOIN whose checks pass (R163). -/
def State.joinSpan (s : State) : State :=
  (s.onController fun c =>
    { c with station := .listening, locked := true, beaconSequence := 0, pendingBeacon := none,
             listenTimer := some (2 * s.bp), beaconTimer := some s.bp }).onLink fun l =>
    { l with ownDigest := some s.digest, transmitFaults := 0, medium := .gap, gap := .first }

/-! ### Leaving the span -/

/-- Stop the listen timer and the beacon timer (R166, R172, R173). -/
def State.stopTimers (s : State) : State :=
  s.onController fun c => { c with listenTimer := none, beaconTimer := none }

/-- Entry to ISOLATED on a report, posting its notice (R62, R94, R173). -/
def State.isolate (s : State) (report : NoticeKind) : State :=
  let ended := s.endSlots (fun i => !(s.slot i).state.isFree && !(s.slot i).state.isDone) .stationIsolated
  (((((ended.linkOff.dropPendingBeacon.stopTimers.clearContexts.onResponder fun r => { r with holdTimer := none })
      ).clearPeers).enter .isolated).post
    { kind := report, station := s.own, detail := .number 0 })

/-- A report of the link unit is acted on in LISTENING, ACTIVE, QUIET and LEAVING (R173). -/
def State.report (s : State) (kind : NoticeKind) : State := if s.receiverOn then s.isolate kind else s

/-- The end of the leaving sequence (R172). -/
def State.endLeaving (s : State) : State :=
  ((((s.onController fun c => { c with beaconSequence := c.beaconSequence + 1 }).linkOff.dropPendingBeacon.stopTimers
      ).clearContexts.clearPeers.unlock).enter .offline).post
    { kind := .left, station := s.own, detail := .number 0 }

/-- Entry to LEAVING (R61, R171). -/
def State.startLeaving (s : State) : State :=
  let ended := (s.endSlots s.waiting .stationLeaving).markSlots s.inFlight fun x =>
    { x with deferred := some (x.deferred.getD .stationLeaving) }
  ((if s.link.begun then ended else ended.emptyTransmit).dropPendingBeacon.enter .leaving).checkLeaving

/-! ### Ticks -/

/-- The end of the listening period (R165). -/
def State.endListening (s : State) : State :=
  (((s.onController fun c => { c with listenTimer := none }).enter .active).post
    { kind := .joined, station := s.own, detail := .number 0 }).queueBeacon { state := .active, wakeLevel := 0 }

/-- What the station controller does on a tick beyond ageing the peers (R165, R169). -/
def State.tickEffect (s : State) : State :=
  match s.controller.station with
  | .listening =>
    match s.controller.listenTimer with
    | some left =>
      if left ≤ s.bp then s.endListening
      else s.onController fun c => { c with listenTimer := some (left - s.bp) }
    | none => s
  | .active => s.queueBeacon { state := .active, wakeLevel := 0 }
  | .quiet level => s.queueBeacon { state := .quiet, wakeLevel := level }
  | .leaving | .offline | .isolated => s

/-! ### The link unit's frames -/

/-- A frame's lost contentions have made its ageing due (R135). -/
def State.ageingDue (s : State) : Bool := Config.ageingLosses ≤ s.link.lostCount

/-- The frame ages: its effective urgency rises by one unless it is 7, and the lost-contention count returns to 0 (R135). -/
def State.ageFrame (s : State) : State :=
  s.onLink fun l =>
    { l with lostCount := 0,
             effectiveUrgency := if l.effectiveUrgency = 7 then 7 else l.effectiveUrgency + 1 }

/-- The AWAITING slot (R32). -/
def State.awaitingSlot (s : State) : Option Tag := lowestOf fun i => (s.slot i).state.isAwaiting

/-- The exchange of an AWAITING slot closes with no answer (R46). -/
def State.noAnswer (s : State) (i : Tag) : State :=
  let x := s.slot i
  let count := x.noAnswerCount + 1
  let passed : Bool := s.nl < count
  ((s.setSlot i { x with noAnswerCount := count, firstFlag := false,
                         lastCause := if passed then some .noAnswerLimit else x.lastCause }).closeExchange i
    (if passed then .finish .peerNoAnswer else .wait s.bb)).checkLeaving

/-- The reservation an AWAITING slot's answer is expected in has ended, so that its timer has expired (R45). -/
def State.answerTimerDue (s : State) : Bool :=
  match s.link.medium with
  | .reserved | .transmitting => false
  | .receiving => s.link.layout != .replySlot
  | .idle | .gap | .contention => true

/-- Take an answer timer's expiry that is due (R45). -/
def State.takeDueAnswer (s : State) : State :=
  match s.awaitingSlot with
  | some i => if s.answerTimerDue then s.noAnswer i else s
  | none => s

/-- Take a LINK-FAULT report that is due (R142). -/
def State.takeDueFault (s : State) : State :=
  if Config.faultLimit ≤ s.link.transmitFaults then s.report .linkFault else s

/-- Take a frame's ageing that is due (R135). -/
def State.takeDueAgeing (s : State) : State := if s.ageingDue then s.ageFrame else s

/-- Take every consequence that an earlier event has made due and whose own row the sender has left out: silent peers, a link
fault, an ageing, an answer timer's expiry. The next event of the line or of the beacon timer takes them first (log entry 3). -/
def State.takeDue (s : State) : State :=
  (State.silenceAll 32 s).takeDueFault.takeDueAgeing.takeDueAnswer

/-! ### Soft reset -/

/-- The link unit after a soft reset: the rate and the CRC error count stay (R145). -/
def softLink (l : Link) : Link := { Link.cold l.rate with crcErrors := l.crcErrors }

/-- The station controller after a soft reset: the own number, the parameters and the config fault detail stay (R175). -/
def softController (c : Controller) : Controller :=
  { Controller.cold c.ownNumber with parameters := c.parameters, faultDetail := c.faultDetail }

/-- The host port after a soft reset (R194). -/
def softHost (h : HostPort) : HostPort := { h with result := .accepted, statusCapture := none, peerCapture := none }

/-- Every block takes its soft-reset values (R5, R22, R95, R98, R125, R145, R157, R175, R186, R189, R194). -/
def State.softReset (s : State) : State :=
  { requester := Requester.reset, staging := s.staging, responder := Responder.reset, windows := s.windows,
    target := TargetBus.reset s.target.pins, link := softLink s.link, peers := clearedPeers s.own,
    controller := softController s.controller, completions := Completions.reset, notices := Notices.reset,
    hostPort := softHost s.hostPort, pending := s.pending }

end Sys2Proof.Machine
end

