-- ==== Sys2Proof/Machine/Requests.lean ====
section
/-! DEFINITION. The requester's own steps: dispatch (R6 to R10), the completion queue's arbiter (R12, R15 to R17, R43, R178), the
load of the transmit register with its segment build (R23, R24, R26), the answer and back-off timers (R46, R53), and the
application of answers (R33 to R39, R50 to R52). -/

namespace Sys2Proof.Machine

/-! ### Dispatch -/

/-- The slot record dispatch fills (R7, R8). -/
def Slot.dispatched (old : Slot) (d : Descriptor) (seq : Nat) : Slot :=
  { state := .behind, generation := old.generation + 1, descriptor := d, dispatchSeq := seq, bytesDone := 0,
    offered := none, firstFlag := true, busyCount := 0, heldCount := 0, noAnswerCount := 0, segmentsSent := 0,
    retries := 0, lastCause := none, abortMark := false, deferred := none, sentHere := false }

/-- The descriptor and the slot of a dispatch whose conditions hold (R6, R7). -/
def State.dispatchable (s : State) : Option (Descriptor × List Descriptor × Tag) :=
  match s.requester.queue with
  | [] => none
  | d :: rest =>
    match lowestOf fun i => (s.slot i).state.isFree with
    | none => none
    | some i =>
      if s.controller.station = .active ∧ s.requester.drainCount = 0 ∧ s.requester.fenceWait = false ∧ d.kind ≠ .fence
      then some (d, rest, i)
      else none

/-- A READ's or WRITE's descriptor moves into a slot, which R9 and R10 then place. -/
def State.dispatchInto (s : State) (d : Descriptor) (rest : List Descriptor) (i : Tag) : State :=
  let s1 :=
    ((s.setSlot i ((s.slot i).dispatched d s.requester.dispatchSeq)).setQueue rest).onRequester fun r =>
      { r with dispatchSeq := r.dispatchSeq + 1 }
  if s1.heldByAnother i d.destination then s1 else s1.placeSlot i

/-- DISPATCH (R6). -/
def execDispatch (s : State) : StepResult :=
  .next
    (match s.dispatchable with
      | some (d, rest, i) => s.dispatchInto d rest i
      | none => s)

/-! ### The completion queue's arbiter -/

/-- Write a record at the tail of the completion queue (R177, R181). -/
def State.writeRecord (s : State) (r : CompletionRecord) : State :=
  s.onCompletions fun q =>
    { q with records := q.records ++ [r], notifyCount := if r.notify then q.notifyCount + 1 else q.notifyCount }

/-- The record of a slot with a pending status (R43). -/
def Slot.record (x : Slot) (i : Tag) (st : Status) : CompletionRecord :=
  { cookie := x.descriptor.cookie, tag := some i, generation := x.generation, kind := x.descriptor.kind,
    destination := x.descriptor.destination, status := st, bytesDone := x.bytesDone, segmentsSent := x.segmentsSent,
    retries := x.retries, lastCause := x.lastCause, notify := x.descriptor.notify }

/-- The completion queue has room (R178). -/
def State.completionRoom (s : State) : Bool := s.completions.records.length < Config.completionCapacity

/-- The DONE slot with the oldest done order (R178). -/
def State.oldestDone (s : State) : Option Tag :=
  bestOf (fun i => (s.slot i).state.isDone) (fun i j => (s.slot i).state.order < (s.slot j).state.order)

/-- A DONE slot's record is written and the slot becomes FREE in the same step (R43). -/
def State.completeSlot (s : State) (i : Tag) : State :=
  match (s.slot i).state with
  | .done st _ => (s.writeRecord ((s.slot i).record i st)).setSlot i (Slot.freed (s.slot i).generation)
  | _ => s

/-- SLOT_COMPLETION_WRITE (R43, R178). -/
def execSlotCompletionWrite (s : State) : StepResult :=
  .next
    (if s.completionRoom then
      match s.oldestDone with
      | some i => s.completeSlot i
      | none => s
    else s)

/-- The record of a direct completion (R17). -/
def Descriptor.directRecord (d : Descriptor) (st : Status) : CompletionRecord :=
  { cookie := d.cookie, tag := none, generation := 0, kind := d.kind,
    destination := if d.kind = .fence then 0 else d.destination, status := st, bytesDone := 0, segmentsSent := 0,
    retries := 0, lastCause := none, notify := d.notify }

/-- The status the head descriptor awaits in a direct completion, if it awaits one (R12, R15, R16). -/
def State.directStatus (s : State) (d : Descriptor) : Option Status :=
  if 0 < s.requester.drainCount then some .aborted
  else if s.controller.station = .isolated then some .stationIsolated
  else if d.kind = .fence ∧ s.controller.station = .active ∧
      (List.finRange 8).all (fun i => (s.slot i).state.isFree) then some .ok
  else none

/-- The head leaves the request queue with a direct completion, in one step (R15, R17). -/
def State.completeHead (s : State) (d : Descriptor) (rest : List Descriptor) (st : Status) : State :=
  ((s.writeRecord (d.directRecord st)).setQueue rest).onRequester fun r => { r with drainCount := r.drainCount - 1 }

/-- DIRECT_COMPLETION (R17, R178). -/
def execDirectCompletion (s : State) : StepResult :=
  .next
    (match s.requester.queue with
      | [] => s
      | d :: rest =>
        if s.completionRoom ∧ s.oldestDone = none then
          match s.directStatus d with
          | some st => s.completeHead d rest st
          | none => s
        else s)

/-! ### Building and loading -/

/-- The bytes a slot's next segment offers (R23). -/
def Slot.offer (x : Slot) : Nat := min Config.segmentBytes (x.descriptor.length - x.bytesDone)

/-- The op of a descriptor's segments (R23). -/
def DescriptorKind.op : DescriptorKind → Op
  | .write => .write
  | .read => .read
  | .fence => .read

/-- The SEGMENT built from a slot, a WRITE's data copied from staging memory (R23, R24). -/
def State.buildSegment (s : State) (i : Tag) : Segment :=
  let x := s.slot i
  { op := x.descriptor.kind.op
    firstFlag := x.firstFlag
    urgency := x.descriptor.urgency
    destination := x.descriptor.destination
    source := s.own
    tag := i
    generation := x.generation
    offset := BitVec.ofNat 8 x.bytesDone
    address := x.descriptor.remoteAddress + BitVec.ofNat 32 x.bytesDone
    length := BitVec.ofNat 8 x.offer
    data :=
      match x.descriptor.kind with
      | .write => Memory.readBytes s.staging (x.descriptor.stagingOffset + x.bytesDone) x.offer
      | .read | .fence => [] }

/-- The READY slot of the highest urgency, and among equals the earliest dispatched (R26). -/
def State.bestReady (s : State) : Option Tag :=
  bestOf (fun i => (s.slot i).state.isReady)
    (fun i j =>
      (s.slot j).descriptor.urgency < (s.slot i).descriptor.urgency ||
        ((s.slot i).descriptor.urgency == (s.slot j).descriptor.urgency &&
          (s.slot i).dispatchSeq < (s.slot j).dispatchSeq))

/-- Load a frame: its effective urgency starts at its own urgency and its lost-contention count at 0 (R135). -/
def State.loadFrame (s : State) (f : TxFrame) (urgency : Urgency) : State :=
  s.onLink fun l =>
    { l with tx := some f, begun := false, contending := false, effectiveUrgency := urgency, lostCount := 0 }

/-- Load a slot's segment; the slot becomes CONTENDING (R23, R26). -/
def State.loadSlot (s : State) (i : Tag) : State :=
  (s.loadFrame (.segment i (s.buildSegment i)) (s.slot i).descriptor.urgency).setSlot i
    { s.slot i with state := .contending, offered := some (s.slot i).offer }

/-- TRANSMIT_REGISTER_LOAD (R26, R170). -/
def execTransmitRegisterLoad (s : State) : StepResult :=
  .next
    (if s.link.tx.isSome ∨ s.transmitterOn = false then s
    else
      match s.controller.pendingBeacon with
      | some p => (s.loadFrame (.beacon (s.buildBeacon p)) 7).dropPendingBeacon
      | none =>
        if s.controller.station = .active ∧ s.awaitingSlot = none then
          match s.bestReady with
          | some i => s.loadSlot i
          | none => s
        else s)

/-! ### Timers -/

/-- A frame begun in the reply slot is on the line, so that the answer timer cannot expire before it ends (R45). -/
def State.replyOnLine (s : State) : Bool := s.link.medium == .receiving && s.link.layout == .replySlot

/-- ANSWER_TIMER_EXPIRY (R45, R46). -/
def execAnswerTimerExpiry (s : State) : StepResult :=
  .next
    (match s.awaitingSlot with
      | some i => if s.replyOnLine then s else s.noAnswer i
      | none => s)

/-- BACKOFF_EXPIRY (R53). -/
def execBackoffExpiry (i : Tag) (s : State) : StepResult :=
  .next
    (match (s.slot i).state with
      | .backoff _ => s.placeSlot i
      | _ => s)

/-! ### Answers -/

/-- The count is valid for the code, and the data agrees with the slot's kind (R33). -/
def Answer.fits (a : Answer) (x : Slot) : Bool :=
  match a.code with
  | .taken =>
    1 ≤ a.count.toNat && a.count.toNat ≤ x.offered.getD 0 &&
      (match x.descriptor.kind with
        | .read => a.data.length == a.count.toNat
        | .write | .fence => a.data.isEmpty)
  | .held | .busy | .refused => a.count == 0 && a.data.isEmpty

/-- An ANSWER matches the AWAITING slot `i` (R33). -/
def State.answerMatches (s : State) (a : Answer) (i : Tag) : Bool :=
  let x := s.slot i
  a.destination == s.own && a.source == x.descriptor.destination && a.tag == i && a.generation == x.generation &&
    a.offset.toNat == x.bytesDone && a.fits x

/-- Apply TAKEN: read data into staging memory, then bytes done and the counts (R37, R38), then the close (R36, R39). -/
def State.applyTaken (s : State) (i : Tag) (a : Answer) : State :=
  let x := s.slot i
  let stored :=
    match x.descriptor.kind with
    | .read => s.setStaging (Memory.storeBytes s.staging (x.descriptor.stagingOffset + x.bytesDone) a.data)
    | .write | .fence => s
  (stored.setSlot i { x with bytesDone := x.bytesDone + a.count.toNat, busyCount := 0, heldCount := 0,
                             noAnswerCount := 0, sentHere := false }).closeExchange i .advance

/-- Apply HELD (R50). -/
def State.applyHeld (s : State) (i : Tag) : State :=
  let x := s.slot i
  let count := x.heldCount + 1
  let passed : Bool := s.hl < count
  (s.setSlot i { x with heldCount := count, firstFlag := false,
                        lastCause := if passed then some .heldLimit else x.lastCause }).closeExchange i
    (if passed then .finish .peerHeldLimit else .wait s.hi)

/-- The back-off after a BUSY answer that brought the busy count to `k` (R51). -/
def State.busyBackoff (s : State) (k : Nat) : Nat := s.bb * 2 ^ (min k 6 - 1)

/-- Apply BUSY (R51). -/
def State.applyBusy (s : State) (i : Tag) : State :=
  let x := s.slot i
  let count := x.busyCount + 1
  let passed : Bool := s.bl < count
  (s.setSlot i { x with busyCount := count,
                        lastCause := if passed then some .busyLimit else x.lastCause }).closeExchange i
    (if passed then .finish .peerBusy else .wait (s.busyBackoff count))

/-- Apply REFUSED (R52). -/
def State.applyRefused (s : State) (i : Tag) (c : Cause) : State :=
  (s.setSlot i { s.slot i with lastCause := some (.refusal c) }).closeExchange i (.finish (.refused c))

/-- Apply a matched answer by its code (R35). -/
def State.applyAnswer (s : State) (i : Tag) (a : Answer) : State :=
  match a.code with
  | .taken => s.applyTaken i a
  | .held => s.applyHeld i
  | .busy => s.applyBusy i
  | .refused => s.applyRefused i (causeOf a.cause)

/-- Deliver an ANSWER to the requester: one that does not match, or finds no AWAITING slot, is ignored (R33, R34). -/
def State.deliverAnswer (s : State) (a : Answer) : State :=
  match s.awaitingSlot with
  | some i => if s.answerMatches a i then s.applyAnswer i a else s
  | none => s

end Sys2Proof.Machine
end

