-- ==== Sys2Proof/Machine/Span.lean ====
section
/-! DEFINITION. The link unit's steps on the span: starting a frame, contention, transmission, reception, the reply slot and the
medium state (R127 to R145). -/

namespace Sys2Proof.Machine

/-! ### Contention -/

/-- Enter CONTENTION over a frame read in the contended layout, driving in it or not (R130, R133). -/
def State.enterContention (s : State) (driving : Bool) : State :=
  s.onLink fun l => { l with medium := .contention, layout := .contended, followTail := false, contending := driving }

/-- This station has a frame it may contend with (R133). -/
def State.mayContend (s : State) : Bool := s.transmitterOn && s.link.tx.isSome

/-- FRAME_START (R133). -/
def execFrameStart (s : State) : StepResult :=
  let s := s.takeDue
  .next (if s.link.medium = .idle ∧ s.mayContend then s.enterContention true else s)

/-- CONTENTION_LOST (R134, R135). -/
def execContentionLost (s : State) : StepResult :=
  let s := s.takeDue
  .next
    (if s.link.medium = .contention ∧ s.link.contending then
      s.onLink fun l => { l with contending := false, lostCount := l.lostCount + 1 }
    else s)

/-- URGENCY_AGEING (R135). -/
def execUrgencyAgeing (s : State) : StepResult := .next (if s.ageingDue then s.ageFrame else s)

/-- TRANSMISSION_BEGINS (R28, R134). -/
def execTransmissionBegins (s : State) : StepResult :=
  .next
    (if s.link.medium = .contention ∧ s.link.contending then
      s.onLink fun l => { l with medium := .transmitting, contending := false, begun := true }
    else s)

/-- DOMINANT_BIT_FROM_ANOTHER_STATION (R130, R131, R133). -/
def execDominantBitFromAnotherStation (s : State) : StepResult :=
  let s := s.takeDue
  .next
    (if s.receiverOn then
      match s.link.medium with
      | .idle => s.enterContention s.mayContend
      | .gap =>
        match s.link.gap with
        | .first => s
        | .ordinary => s.enterContention false
        | .lateReply =>
          s.onLink fun l => { l with medium := .receiving, layout := .lateReply, followTail := false }
      | .reserved => s.onLink fun l => { l with medium := .receiving, layout := .replySlot, followTail := false }
      | .contention | .receiving | .transmitting => s
    else s)

/-! ### The gap and the reservation -/

/-- Enter GAP of a kind (R130). -/
def State.enterGap (s : State) (k : GapKind) : State := s.onLink fun l => { l with medium := .gap, gap := k }

/-- Enter RESERVED (R131). -/
def State.enterReserved (s : State) : State := s.onLink fun l => { l with medium := .reserved }

/-- IDLE_GAP_ELAPSED (R129, R130). -/
def execIdleGapElapsed (s : State) : StepResult :=
  .next
    (if s.receiverOn ∧ s.link.medium = .gap then s.onLink fun l => { l with medium := .idle, gap := .ordinary }
    else s)

/-- RESERVATION_TIMEOUT (R131). -/
def execReservationTimeout (s : State) : StepResult :=
  .next (if s.link.medium = .reserved then (s.enterGap .lateReply).endReservation else s)

/-- ANSWER_TRANSMISSION_START (R136). -/
def execAnswerTransmissionStart (s : State) : StepResult :=
  let s := s.takeDue
  .next
    (if s.link.medium = .reserved ∧ s.link.answer.isSome ∧ s.transmitterOn then
      s.onLink fun l => { l with medium := .transmitting, answerBegun := true }
    else s)

/-! ### The end of a transmission -/

/-- The transmit-fault count returns to 0 (R141, R142). -/
def State.clearFaults (s : State) : State := s.onLink fun l => { l with transmitFaults := 0 }

/-- A total increases by one and saturates (R30, R137). -/
def saturatingSucc (n : Nat) : Nat := min (n + 1) Config.saturation

/-- The slot after its SEGMENT has been sent in full (R30). -/
def Slot.sent (x : Slot) (aw : Nat) : Slot :=
  { x with
    state := .awaiting aw
    segmentsSent := saturatingSucc x.segmentsSent
    retries := if x.sentHere then saturatingSucc x.retries else x.retries
    sentHere := true }

/-- A BEACON has been sent in full: the sequence increases, and the LEAVING beacon ends the leaving sequence (R132, R170,
R172). -/
def State.beaconSent (s : State) (b : OwnBeacon) : State :=
  if b.state = .leaving ∧ s.controller.station = .leaving then s.endLeaving
  else (s.onController fun c => { c with beaconSequence := c.beaconSequence + 1 }).checkLeaving

/-- FRAME_SENT_IN_FULL (R30, R136, R141, R170). -/
def execFrameSentInFull (s : State) : StepResult :=
  .next
    (if s.link.medium = .transmitting then
      if s.link.answerBegun then (s.clearFaults.emptyAnswer.enterGap .ordinary).checkLeaving
      else
        match s.link.tx with
        | some (.segment i _) =>
          ((s.clearFaults.emptyTransmit.enterReserved).setSlot i ((s.slot i).sent s.aw)).checkLeaving
        | some (.beacon b) => (s.clearFaults.emptyTransmit.enterGap .ordinary).beaconSent b
        | none => s
    else s)

/-- An abandonment on readback: a fault is counted, and the line is followed as RECEIVING (R141, R142). -/
def State.countFault (s : State) (l : Layout) : State :=
  s.onLink fun k =>
    { k with medium := .receiving, layout := l, followTail := true,
             transmitFaults := min (k.transmitFaults + 1) Config.faultLimit }

/-- An abandoned BEACON becomes pending again, unless one was queued after its transmission began or the station has entered
LEAVING since then (R132). -/
def State.beaconAbandoned (s : State) (b : OwnBeacon) : State :=
  if s.controller.pendingBeacon = none ∧ (s.controller.station = .leaving → b.state = .leaving) then
    s.onController fun c => { c with pendingBeacon := some { state := b.state, wakeLevel := b.wakeLevel } }
  else s

/-- FRAME_ABANDONED (R31, R132, R136, R141). -/
def execFrameAbandoned (s : State) : StepResult :=
  .next
    (if s.link.medium = .transmitting then
      if s.link.answerBegun then (s.emptyAnswer.countFault .replySlot).checkLeaving
      else
        match s.link.tx with
        | some (.segment i _) => ((s.emptyTransmit.countFault .contended).closeExchange i .place).checkLeaving
        | some (.beacon b) => ((s.emptyTransmit.countFault .contended).beaconAbandoned b).checkLeaving
        | none => s
    else s)

/-- LINK_FAULT (R142, R173). -/
def execLinkFault (s : State) : StepResult := .next s.takeDueFault

/-! ### Reception -/

/-- A frame from another station is being received: RECEIVING, or the rest of a contention this station does not drive in
(R130, R137). -/
def State.hearing (s : State) : Bool :=
  match s.link.medium with
  | .receiving => true
  | .contention => !s.link.contending
  | .idle | .gap | .transmitting | .reserved => false

/-- The medium at the end of a frame heard: a frame in the contended layout reserves when it may call for an answer; a frame in
the reply slot ends the reservation (R130, R131, R136). -/
def State.endHeard (s : State) (reserves : Bool) : State :=
  match s.link.layout with
  | .contended => if reserves then s.enterReserved else s.enterGap .ordinary
  | .replySlot => (s.enterGap .ordinary).endReservation
  | .lateReply => s.enterGap .ordinary

/-- A frame that fails its checks is counted (R137). -/
def State.countBadFrame (s : State) : State := s.onLink fun l => { l with crcErrors := saturatingSucc l.crcErrors }

/-- Deliver a good frame: the peer monitor acts first, then the requester or the responder (R139). `replySlot` says that an
ANSWER was begun in a reply slot. -/
def State.deliverFrame (s : State) (f : Frame) (replySlot : Bool) : State :=
  match f with
  | .segment g =>
    let s1 := s.hearFrame g.source
    if g.destination = s.own then s1.deliverSegment g else s1
  | .answer a =>
    let s1 := s.hearFrame a.source
    if replySlot ∧ a.destination = s.own then s1.deliverAnswer a else s1
  | .beacon b => s.hearBeacon b

/-- A good SEGMENT reserves the medium; no other good frame does (R131). -/
def Frame.reserves : Frame → Bool
  | .segment _ => true
  | .answer _ => false
  | .beacon _ => false

/-- What the link unit makes of a frame heard (R131, R137, R139, R143). -/
def State.receive (s : State) (h : Heard) : State :=
  match readFrame s.link.layout h with
  | .failed => (s.endHeard true).countBadFrame
  | .misplaced n => if n = s.own then (s.endHeard false).report .duplicateStation else s.endHeard false
  | .good f =>
    if f.source = s.own then (s.endHeard f.reserves).report .duplicateStation
    else (s.endHeard f.reserves).deliverFrame f (s.link.layout == .replySlot)

/-- The end of the tail of a frame this station abandoned: nothing is delivered or counted, and the medium becomes RESERVED
after a frame in the contended layout and GAP after an ANSWER (R141). -/
def State.endTail (s : State) : State := (s.onLink fun l => { l with followTail := false }).endHeard true

/-- FRAME_RECEIVED (R137). -/
def execFrameReceived (h : Heard) (s : State) : StepResult :=
  let s := s.takeDue
  .next
    (if s.hearing then if s.link.followTail then s.endTail else (s.receive h).checkLeaving
    else s)

/-! ### What is on the line -/

/-- The bytes this station drives while it contends or transmits: its loaded frame under the contention code of its effective
urgency, or its ANSWER (R23, R70, R133 to R136, R170). -/
def State.drivenFrame (s : State) : Option (List Byte) :=
  let code := contentionCode s.link.effectiveUrgency s.own
  if s.link.answerBegun then s.link.answer.map answerFrame
  else if s.link.contending || s.link.begun then
    match s.link.tx with
    | some (.segment _ g) => some (segmentFrame code g)
    | some (.beacon b) => some (beaconFrame code s.own b)
    | none => none
  else none

end Sys2Proof.Machine
end

