-- ==== Sys2Proof/Machine/Events.lean ====
section
/-! DEFINITION. The remaining events: the responder's timers (R89, R90), the station controller's timers (R165, R169), silence
(R153), and the target bus unit's steps (R111, R116 to R120). -/

namespace Sys2Proof.Machine

/-! ### The responder's timers -/

/-- The context whose answer is owed (R87). -/
def State.owedContext (s : State) : Option EntryNo := lowestOf fun j => (s.context j).answerOwed

/-- HOLD_POINT_EXPIRY (R89). -/
def execHoldPointExpiry (s : State) : StepResult :=
  .next
    (match s.responder.holdTimer with
      | none => s
      | some _ =>
        let s1 := s.onResponder fun r => { r with holdTimer := none }
        match s.owedContext with
        | none => s1
        | some j =>
          (s1.placeAnswer (s.heldAnswer (s.context j))).setContext j { s.context j with answerOwed := false })

/-- CONTEXT_LIFETIME_EXPIRY (R90). -/
def execContextLifetimeExpiry (j : EntryNo) (s : State) : StepResult :=
  .next
    (match (s.context j).state with
      | .ready _ _ => (s.postDropped j .expired).freeContext j
      | .answered _ _ _ => s.freeContext j
      | .free | .queued | .cycling => s)

/-! ### The station controller's timers -/

/-- LISTEN_TIMER_EXPIRY: the second tick and the end of the listening period, taken as one event (R165). -/
def execListenTimerExpiry (s : State) : StepResult :=
  let s := s.takeDue
  .next
    (if s.controller.station = .listening ∧ s.controller.listenTimer.isSome then s.agePeers.endListening else s)

/-- BEACON_PERIOD_TICK (R153, R169). -/
def execBeaconPeriodTick (s : State) : StepResult :=
  let s := s.takeDue
  .next (if s.controller.beaconTimer.isSome then s.agePeers.tickEffect else s)

/-- SILENCE_COUNT_EXPIRY: the lowest-numbered record whose count has reached 3 becomes SILENT (R153). -/
def execSilenceCountExpiry (s : State) : StepResult := .next s.silenceOne

/-! ### The target bus unit -/

/-- The QUEUED context with the oldest creation order (R111). -/
def State.oldestQueued (s : State) : Option EntryNo :=
  bestOf (fun j => (s.context j).state.isQueued) (fun i j => (s.context i).creation < (s.context j).creation)

/-- The window fields a run holds (R112). -/
def WindowEntry.heldFields (e : WindowEntry) : HeldWindow :=
  { spanBase := e.spanBase, localBase := e.localBase, widthCap := (widthOf e.widthCap).getD 1, burst := e.burst }

/-- The unit takes a context: it becomes CYCLING and its window's fields are held (R111, R112). -/
def State.takeContext (s : State) (j : EntryNo) : State :=
  (s.setContext j { s.context j with state := .cycling }).onTarget fun t =>
    { t with current := some j, held := some s.windows[(s.context j).window].heldFields, cycle := none,
             retryCount := 0 }

/-- The wait for a termination's withdrawal is not running, so that an attempt may start (R115, R120). -/
def State.withdrawn (s : State) : Bool := s.target.monitor == .stopped

/-- TARGET_BUS_ARBITER (R111, R112, R115). -/
def execTargetBusArbiter (s : State) : StepResult :=
  .next
    (match s.target.current with
      | some _ => s
      | none =>
        match s.oldestQueued with
        | none => s
        | some j => if s.withdrawn then (s.takeContext j).startAttempt else s.takeContext j)

/-- Act on a termination of the running attempt (R116 to R119). -/
def State.actOn (s : State) (j : EntryNo) (h : HeldWindow) (y : Cycle) (data : BitVec 32) : TerminationKind → State
  | .acknowledge w => s.takeAcknowledge j h y w data
  | .retry => s.takeRetry j
  | .error => (s.awaitWithdrawal false).failRun j .targetError

/-- TARGET_TERMINATION: a termination asserted while no attempt runs is not taken (R116). -/
def execTargetTermination (signals : Termination) (s : State) : StepResult :=
  .next
    (match s.target.monitor, s.target.current, s.target.held, s.target.cycle, terminationKind signals with
      | .termination _, some j, some h, some y, some k => s.idlePins.actOn j h y signals.data k
      | _, _, _, _, _ => s)

/-- Stop the target monitor timer. -/
def State.stopMonitor (s : State) : State := s.onTarget fun t => { t with monitor := .stopped }

/-- TERMINATION_WITHDRAWN (R115, R120). -/
def execTerminationWithdrawn (s : State) : StepResult :=
  .next
    (match s.target.monitor with
      | .withdrawal _ _ => s.stopMonitor.startAttempt
      | .termination _ | .stopped => s)

/-- TARGET_MONITOR_EXPIRY: no termination fails the cycle; a termination not withdrawn ends the run it belongs to, or only the
wait when that run has ended (R120). -/
def execTargetMonitorExpiry (s : State) : StepResult :=
  .next
    (match s.target.monitor, s.target.current with
      | .termination _, some j => s.stopMonitor.idlePins.failRun j .targetTimeout
      | .withdrawal _ true, some j => s.stopMonitor.failRun j .targetTimeout
      | .withdrawal _ false, _ => s.stopMonitor.startAttempt
      | _, _ => s)

end Sys2Proof.Machine
end

