-- ==== Sys2Proof/Machine/HostCommands.lean ====
section
/-! DEFINITION. The host commands: writes to the command register (R188), each leaving its result in the command result
register in the same step. -/

namespace Sys2Proof.Machine

/-! ### PUSH -/

/-- The copy PUSH takes of the descriptor-build registers, for a kind the kind code names (R2). -/
def DescriptorBuild.descriptor (b : DescriptorBuild) (k : DescriptorKind) : Descriptor :=
  { kind := k, destination := Fin.ofNat 32 b.destination.toNat, remoteAddress := b.remoteAddress,
    length := b.length.toNat, stagingOffset := b.stagingOffset.toNat, urgency := Fin.ofNat 8 b.urgency.toNat,
    cookie := b.cookie, notify := b.notify }

/-- The checks of R3 on a copied descriptor, against the own station number. -/
def Descriptor.passes (d : Descriptor) (own : StationNo) : Bool :=
  d.kind == .fence ||
    (d.destination != own && 1 ≤ d.length && d.length ≤ 256 && d.stagingOffset + d.length ≤ Config.stagingSize)

/-- The copied descriptor, when it passes every check of R3. -/
def State.pushed (s : State) : Option Descriptor :=
  match descriptorKindOf s.hostPort.build.kind with
  | none => none
  | some k => if (s.hostPort.build.descriptor k).passes s.own then some (s.hostPort.build.descriptor k) else none

/-- PUSH (R3). -/
def execPush (s : State) : StepResult :=
  s.hostTakes
    (match s.pushed with
      | none => s.withResult .refusedInvalid
      | some d =>
        if s.requester.queue.length < Config.requestCapacity then
          (s.setQueue (s.requester.queue ++ [d])).withResult .accepted
        else s.withResult .refusedFull)

/-! ### Popping -/

/-- POP-COMPLETION (R180, R181). -/
def execPopCompletion (s : State) : StepResult :=
  s.hostTakes
    (match s.completions.records with
      | [] => s.withResult .refusedEmpty
      | r :: rest =>
        (s.onCompletions fun q =>
          { records := rest, notifyCount := if r.notify then q.notifyCount - 1 else q.notifyCount,
            capture := none }).withResult .accepted)

/-- POP-NOTICE (R184). -/
def execPopNotice (s : State) : StepResult :=
  s.hostTakes
    (match s.notices.records with
      | [] => s.withResult .refusedEmpty
      | _ :: rest =>
        (s.onNotices fun q => { q with records := rest, capture := none }).withResult .accepted)

/-! ### Station commands -/

/-- JOIN (R162, R163). -/
def execJoin (s : State) : StepResult :=
  s.hostTakes
    (if s.controller.station = .offline then
      if s.joinFault = .none then s.joinSpan.withResult .accepted
      else
        (s.onController fun c => { c with faultDetail := s.joinFault }).withResult .refusedInvalid
    else s.withResult .refusedState)

/-- LEAVE (R166, R171, R174). -/
def execLeave (s : State) : StepResult :=
  s.hostTakes
    (match s.controller.station with
      | .offline | .leaving => s.withResult .refusedState
      | .listening => ((s.linkOff.stopTimers.clearPeers.unlock).enter .offline).withResult .accepted
      | .isolated => (s.unlock.enter .offline).withResult .accepted
      | .active | .quiet _ => s.startLeaving.withResult .accepted)

/-- Entry to QUIET from ACTIVE on the slots: an unbegun CONTENDING slot is withdrawn to READY (R60). -/
def State.quietSlots (s : State) : State :=
  (s.markSlots (fun i => (s.slot i).state.isContending && !s.link.begun) fun x =>
    { x with state := .ready }).withdrawSegment

/-- QUIET(L) (R60, R167). -/
def execQuiet (arg : Byte) (s : State) : StepResult :=
  s.hostTakes
    (match s.controller.station with
      | .active =>
        if arg.toNat ≤ 7 then
          ((s.quietSlots.enter (.quiet (Fin.ofNat 8 arg.toNat))).queueBeacon
            { state := .quiet, wakeLevel := Fin.ofNat 8 arg.toNat }).withResult .accepted
        else s.withResult .refusedInvalid
      | .quiet _ =>
        if arg.toNat ≤ 7 then
          ((s.enter (.quiet (Fin.ofNat 8 arg.toNat))).queueBeacon
            { state := .quiet, wakeLevel := Fin.ofNat 8 arg.toNat }).withResult .accepted
        else s.withResult .refusedInvalid
      | .offline | .listening | .leaving | .isolated => s.withResult .refusedState)

/-- WAKE (R168). -/
def execWake (s : State) : StepResult :=
  s.hostTakes
    (match s.controller.station with
      | .quiet _ =>
        ((s.enter .active).queueBeacon { state := .active, wakeLevel := 0 }).withResult .accepted
      | .offline | .listening | .active | .leaving | .isolated => s.withResult .refusedState)

/-! ### Aborts -/

/-- ABORT on one slot (R63). -/
def State.abortSlot (s : State) (i : Tag) : State :=
  if s.waiting i then ((s.withdraw i).endSlot i .aborted).withResult .accepted
  else if s.inFlight i then (s.setSlot i { s.slot i with abortMark := true }).withResult .accepted
  else s.withResult .refusedState

/-- ABORT(tag) (R63). -/
def execAbort (arg : Byte) (s : State) : StepResult :=
  s.hostTakes (if arg.toNat ≤ 7 then s.abortSlot (Fin.ofNat 8 arg.toNat) else s.withResult .refusedInvalid)

/-- ABORT-ALL (R14, R66). -/
def execAbortAll (s : State) : StepResult :=
  s.hostTakes
    ((((s.endSlots s.waiting .aborted).markSlots s.inFlight fun x => { x with abortMark := true }).withdrawSegment.onRequester
      fun r => { r with drainCount := s.requester.queue.length }).withResult .accepted)

/-! ### Flags and reset -/

/-- CLEAR-FLAGS (R189). -/
def execClearFlags (s : State) : StepResult :=
  s.hostTakes
    ((((s.onNotices fun q => { q with lost := false }).onLink fun l => { l with crcErrors := 0 }).onHost fun h =>
      { h with configLocked := false }).withResult .accepted)

/-- SOFT-RESET (R189). -/
def execSoftReset (s : State) : StepResult := s.hostTakes s.softReset

/-- A command code that names no command (R188). -/
def execUnassignedCommandCode (code : Byte) (s : State) : StepResult :=
  s.hostTakes (if isUnassignedCode code then s.withResult .refusedInvalid else s)

/-- RESETN, which samples the straps (R160, R175 and the rules R175 names). -/
def execColdReset (straps : Straps) (held : Bool) (s : State) : StepResult :=
  .next (State.cold straps.sid straps.rate s.target.pins held s.pending)

end Sys2Proof.Machine
end

