-- ==== Sys2Proof/Machine/HostAccess.lean ====
section
/-! DEFINITION. The host port's other accesses: configuration, staging and register writes (R187, R190, R191, R196), the captures
that reading the first word of a view makes (R158, R180, R184, R193), and the value any read returns (R187, R196). -/

namespace Sys2Proof.Machine

/-! ### Writes -/

/-- The configuration after a write to one of its words (R97, R161). -/
def State.storeConfiguration (s : State) (r : HostRegister) (data : Word) (lanes : Lanes) : State :=
  match r with
  | .parameter p =>
    s.onController fun c =>
      { c with parameters :=
          c.parameters.set p (lowByte (mergeLanes (c.parameters[p].setWidth 16) data lanes)) }
  | .window n k =>
    s.setWindows (s.windows.set n (setWindowWord s.windows[n] k (mergeLanes (windowWord s.windows[n] k) data lanes)))
  | _ => s

/-- A write to a station parameter or a window field: stored in OFFLINE, and otherwise refused with CONFIG-LOCKED (R190). An access
with no byte strobe is none (DESIGN CHOICE, log entry 4). -/
def execConfigurationWrite (addr : Byte) (data : Word) (lanes : Lanes) (s : State) : StepResult :=
  s.hostTakes
    (if isConfigurationAddress addr && lanes.wellFormed then
      if s.controller.station = .offline then s.storeConfiguration (hostRegister addr) data lanes
      else (s.onHost fun h => { h with configLocked := true }).withResult .refusedLocked
    else s)

/-- The staging address of a byte of the data window, `k` bytes in (R191). -/
def State.windowAddress (s : State) (k : Nat) : Nat := s.hostPort.page.toNat * 128 + k

/-- A write through the staging data window stores the bytes of the strobed halves (R191). -/
def execStagingWrite (addr : Byte) (data : Word) (lanes : Lanes) (s : State) : StepResult :=
  s.hostTakes
    (match hostRegister addr with
      | .staging w =>
        let a := s.windowAddress (2 * w.val)
        let m1 := if lanes.low then Memory.store s.staging a (lowByte data) else s.staging
        s.setStaging (if lanes.high then Memory.store m1 (a + 1) (highByte data) else m1)
      | _ => s)

/-- A write to the peer index register selects a record and captures its view (R158). A write of the high half alone keeps the index
(DEDUCED, log entry 21), and an access with no byte strobe is none (DESIGN CHOICE, log entry 4). -/
def execPeerIndexWrite (data : Word) (lanes : Lanes) (s : State) : StepResult :=
  let index : StationNo := if lanes.low then Fin.ofNat 32 data.toNat else s.hostPort.peerIndex
  s.hostTakes
    (if lanes.wellFormed then s.onHost fun h => { h with peerIndex := index, peerCapture := some (s.peer index) } else s)

/-- A write to a word without a row of its own: the descriptor-build registers, the interrupt enables and the page register
store their listed bits, and any other such word ignores it (R2, R185, R187, R191, R196). -/
def execRegisterWrite (addr : Byte) (data : Word) (lanes : Lanes) (s : State) : StepResult :=
  s.hostTakes
    (match hostRegister addr with
      | .build k =>
        s.onHost fun h =>
          { h with build := setBuildWord h.build k (mergeLanes (buildWord h.build k) data lanes) }
      | .enables =>
        if lanes.low then
          s.onHost fun h =>
            { h with completionEnable := bitFlag data.toNat 0, noticeEnable := bitFlag data.toNat 1 }
        else s
      | .page => if lanes.low then s.onHost fun h => { h with page := BitVec.ofNat 6 data.toNat } else s
      | _ => s)

/-! ### Captures -/

/-- A read of status word 0 captures every item (R193). -/
def execStatusCapture (s : State) : StepResult :=
  s.hostTakes (s.onHost fun h => { h with statusCapture := some s.statusItems })

/-- A read of the completion head view's first word captures the head record, or zeros (R180). -/
def execCompletionHeadCapture (s : State) : StepResult :=
  s.hostTakes (s.onCompletions fun q => { q with capture := some q.records.head? })

/-- A read of the notice head view's first word captures the head notice, or zeros (R184). -/
def execNoticeHeadCapture (s : State) : StepResult :=
  s.hostTakes (s.onNotices fun q => { q with capture := some q.records.head? })

/-- A read of the peer record view's first word captures the selected record (R158). -/
def execPeerRecordCapture (s : State) : StepResult :=
  s.hostTakes (s.onHost fun h => { h with peerCapture := some (s.peer h.peerIndex) })

/-! ### Reads -/

/-- The word a read of a register returns. The first word of a view returns what that read captures; another word returns the
capture's value, or the item as it stands when the view holds no capture (R187, R192, R193, R196). -/
def State.readRegister (s : State) : HostRegister → Word
  | .command => 0
  | .result => BitVec.ofNat 16 s.hostPort.result.code
  | .status k => statusWord (if k = 0 then s.statusItems else s.hostPort.statusCapture.getD s.statusItems) k
  | .crcCount => BitVec.ofNat 16 s.link.crcErrors
  | .enables => enablesWord s.hostPort.completionEnable s.hostPort.noticeEnable
  | .page => s.hostPort.page.setWidth 16
  | .peerIndex => BitVec.ofNat 16 s.hostPort.peerIndex.val
  | .peerView k =>
    peerWord
      (if k = 0 then s.peer s.hostPort.peerIndex
       else s.hostPort.peerCapture.getD (s.peer s.hostPort.peerIndex)) k
  | .build k => buildWord s.hostPort.build k
  | .completionView k =>
    completionWord
      (if k = 0 then s.completions.records.head? else s.completions.capture.getD s.completions.records.head?) k
  | .noticeView k =>
    noticeWord (if k = 0 then s.notices.records.head? else s.notices.capture.getD s.notices.records.head?) k
  | .parameter p => s.controller.parameters[p].setWidth 16
  | .window n k => windowWord s.windows[n] k
  | .staging w =>
    wordOf (Memory.read s.staging (s.windowAddress (2 * w.val)))
      (Memory.read s.staging (s.windowAddress (2 * w.val + 1)))
  | .unlisted => 0

/-- The word a host read of a word address returns: zero while RESETN is asserted, and otherwise the register's (R187). -/
def State.hostRead (s : State) (addr : Byte) : Word :=
  if s.hostPort.resetAsserted then 0 else s.readRegister (hostRegister addr)

end Sys2Proof.Machine
end

