-- ==== Sys2Proof/Machine/Dispatch.lean ====
section
/-! DEFINITION. The meaning of each command: one arm per constructor of `Instr`, each a direct call of its meaning. -/

namespace Sys2Proof.Machine

/-- The effect of a command on everything but the queue of waiting commands. -/
def exec (i : Instr) (s : State) : Host.Outcome State Fault Refusal :=
  match i with
  | .push => Sys2Proof.Machine.execPush s
  | .popCompletion => Sys2Proof.Machine.execPopCompletion s
  | .popNotice => Sys2Proof.Machine.execPopNotice s
  | .join => Sys2Proof.Machine.execJoin s
  | .leave => Sys2Proof.Machine.execLeave s
  | .quiet arg => Sys2Proof.Machine.execQuiet arg s
  | .wake => Sys2Proof.Machine.execWake s
  | .abort arg => Sys2Proof.Machine.execAbort arg s
  | .abortAll => Sys2Proof.Machine.execAbortAll s
  | .clearFlags => Sys2Proof.Machine.execClearFlags s
  | .softReset => Sys2Proof.Machine.execSoftReset s
  | .unassignedCommandCode code => Sys2Proof.Machine.execUnassignedCommandCode code s
  | .configurationWrite addr data lanes => Sys2Proof.Machine.execConfigurationWrite addr data lanes s
  | .stagingWrite addr data lanes => Sys2Proof.Machine.execStagingWrite addr data lanes s
  | .peerIndexWrite data lanes => Sys2Proof.Machine.execPeerIndexWrite data lanes s
  | .registerWrite addr data lanes => Sys2Proof.Machine.execRegisterWrite addr data lanes s
  | .statusCapture => Sys2Proof.Machine.execStatusCapture s
  | .completionHeadCapture => Sys2Proof.Machine.execCompletionHeadCapture s
  | .noticeHeadCapture => Sys2Proof.Machine.execNoticeHeadCapture s
  | .peerRecordCapture => Sys2Proof.Machine.execPeerRecordCapture s
  | .coldReset straps held => Sys2Proof.Machine.execColdReset straps held s
  | .dispatch => Sys2Proof.Machine.execDispatch s
  | .slotCompletionWrite => Sys2Proof.Machine.execSlotCompletionWrite s
  | .directCompletion => Sys2Proof.Machine.execDirectCompletion s
  | .transmitRegisterLoad => Sys2Proof.Machine.execTransmitRegisterLoad s
  | .frameStart => Sys2Proof.Machine.execFrameStart s
  | .contentionLost => Sys2Proof.Machine.execContentionLost s
  | .urgencyAgeing => Sys2Proof.Machine.execUrgencyAgeing s
  | .transmissionBegins => Sys2Proof.Machine.execTransmissionBegins s
  | .frameSentInFull => Sys2Proof.Machine.execFrameSentInFull s
  | .frameAbandoned => Sys2Proof.Machine.execFrameAbandoned s
  | .linkFault => Sys2Proof.Machine.execLinkFault s
  | .frameReceived frame => Sys2Proof.Machine.execFrameReceived frame s
  | .answerTransmissionStart => Sys2Proof.Machine.execAnswerTransmissionStart s
  | .reservationTimeout => Sys2Proof.Machine.execReservationTimeout s
  | .answerTimerExpiry => Sys2Proof.Machine.execAnswerTimerExpiry s
  | .idleGapElapsed => Sys2Proof.Machine.execIdleGapElapsed s
  | .holdPointExpiry => Sys2Proof.Machine.execHoldPointExpiry s
  | .contextLifetimeExpiry entry => Sys2Proof.Machine.execContextLifetimeExpiry entry s
  | .backoffExpiry slot => Sys2Proof.Machine.execBackoffExpiry slot s
  | .listenTimerExpiry => Sys2Proof.Machine.execListenTimerExpiry s
  | .beaconPeriodTick => Sys2Proof.Machine.execBeaconPeriodTick s
  | .silenceCountExpiry => Sys2Proof.Machine.execSilenceCountExpiry s
  | .targetBusArbiter => Sys2Proof.Machine.execTargetBusArbiter s
  | .targetTermination signals => Sys2Proof.Machine.execTargetTermination signals s
  | .terminationWithdrawn => Sys2Proof.Machine.execTerminationWithdrawn s
  | .targetMonitorExpiry => Sys2Proof.Machine.execTargetMonitorExpiry s
  | .dominantBitFromAnotherStation => Sys2Proof.Machine.execDominantBitFromAnotherStation s

end Sys2Proof.Machine
end

