-- ==== Sys2Proof/Machine/Line.lean ====
section
/-! DEFINITION. The levels of the span line (R127): the character of a byte, the levels this station puts on the line bit time by bit
time, what several stations driving at once make of the line, and the frame a receiver makes of the levels it hears. -/

namespace Sys2Proof.Machine

/-- The level of a bit: 0 is dominant and 1 is recessive (R127). -/
def levelOf (b : Bool) : Level := if b then .recessive else .dominant

/-- The bit a level is read as (R127). -/
def bitOf : Level → Nat
  | .dominant => 0
  | .recessive => 1

/-- The line while several stations drive: dominant if any of them drives dominant, and recessive otherwise, as it is when none drives
(R127). -/
def wiredAnd (driven : List Level) : Level := if .dominant ∈ driven then .dominant else .recessive

/-! ### Sending -/

/-- The character of a byte, 10 bit times: a dominant start bit, the eight bits with the most significant first, and a recessive stop
bit (R127). -/
def character (b : Byte) : List Level :=
  .dominant :: (((List.range 8).map fun k => levelOf (b.getMsbD k)) ++ [.recessive])

/-- The characters of a frame follow one another without pause (R127). -/
def lineLevels (bytes : List Byte) : List Level := bytes.flatMap character

/-- The level this station puts on the line `k` bit times after the start of its frame: its frame's, and recessive while it drives
nothing and past its frame (R127). -/
def State.drivenLevel (s : State) (k : Nat) : Level := (lineLevels (s.drivenFrame.getD [])).getD k .recessive

/-! ### Hearing -/

/-- The byte of the eight levels between a start bit and a stop bit, the most significant first (R127). -/
def byteOfLevels (levels : List Level) : Byte := BitVec.ofNat 8 (levels.foldl (fun n l => 2 * n + bitOf l) 0)

/-- Hear at most `n` characters of a run of levels, past whose end the line is recessive: the frame ends where the bit position of the
next start bit reads recessive, and at a character whose stop bit reads dominant, a framing error (R127). -/
def hearCharacters : Nat → List Level → Heard
  | 0, _ => { bytes := [], framingError := false }
  | n + 1, line =>
    match line with
    | .dominant :: rest =>
      let b := byteOfLevels ((List.range 8).map fun k => rest.getD k .recessive)
      match rest.getD 8 .recessive with
      | .dominant => { bytes := [b], framingError := true }
      | .recessive =>
        let h := hearCharacters n (rest.drop 9)
        { bytes := b :: h.bytes, framingError := h.framingError }
    | _ => { bytes := [], framingError := false }

/-- The frame heard in a run of levels that begins with its first start bit (R127). -/
def hearLine (line : List Level) : Heard := hearCharacters line.length line

end Sys2Proof.Machine
end

