-- ==== Sys2Proof/Safety.lean ====
section
/-! DEFINITION. What a safe state of the part is: the conditions the manual gives for every moment of a station's life, each as a
decidable condition on the state. A safe run is one whose every state meets them all. -/

namespace Sys2Proof.Machine

/-- Staging memory is in its canonical form and inside its 8192 bytes (R22). -/
abbrev State.stagingCanonical (s : State) : Prop := Memory.wf s.staging = true

/-- The queues hold at most what R4, R177 and R183 allow, the drain count counts queued descriptors (R14), the fence wait is set
exactly while a FENCE is at the head (R12), and the notify count is the number of records with their notify flag set (R181). -/
abbrev State.queuesKept (s : State) : Prop :=
  s.requester.queue.length ≤ 16 ∧ s.requester.drainCount ≤ s.requester.queue.length ∧
    s.requester.fenceWait = fenceAtHead s.requester.queue ∧ s.completions.records.length ≤ 16 ∧
    s.completions.notifyCount = s.completions.records.countP (fun r => r.notify) ∧ s.notices.records.length ≤ 8

/-- The configuration is locked, and the own digest held, in every state but OFFLINE (R140, R164). -/
abbrev State.lockKept (s : State) : Prop :=
  (s.controller.locked = true ↔ s.controller.station ≠ .offline) ∧
    (s.link.ownDigest.isSome = true ↔ s.controller.locked = true)

/-- The own record, and no other, is SELF (R147). -/
abbrev State.ownRecordKept (s : State) : Prop := ∀ d : StationNo, (s.peer d).state = .self ↔ d = s.own

/-- The counts of the link unit stay in their ranges (R135, R137, R142). -/
abbrev State.linkCountsKept (s : State) : Prop :=
  s.link.transmitFaults ≤ 4 ∧ s.link.crcErrors ≤ 65535 ∧ s.link.lostCount ≤ 4

/-- While the transmitter is off nothing is driven, loaded, placed, pending or owed (R144). -/
abbrev State.silentWhenOff (s : State) : Prop :=
  s.transmitterOn = false →
    s.link.tx = none ∧ s.link.answer = none ∧ s.link.contending = false ∧ s.link.begun = false ∧
      s.link.answerBegun = false ∧ s.controller.pendingBeacon = none ∧
      ∀ j : EntryNo, (s.context j).answerOwed = false

/-- The slot whose segment the transmit register holds (R132). -/
def State.loadedSlot (s : State) : Option Tag :=
  match s.link.tx with
  | some (.segment i _) => some i
  | _ => none

/-- A slot is CONTENDING exactly while its segment is in the transmit register (R26), at most one slot is AWAITING, and no
segment is loaded meanwhile (R32). -/
abbrev State.exchangesKept (s : State) : Prop :=
  (∀ i : Tag, (s.slot i).state.isContending = true ↔ s.loadedSlot = some i) ∧
    (∀ i j : Tag, (s.slot i).state.isAwaiting = true → (s.slot j).state.isAwaiting = true → i = j) ∧
    ∀ i j : Tag, (s.slot i).state.isAwaiting = true → (s.slot j).state.isContending = false

/-- A context is CYCLING exactly while the target bus unit serves it, so at most one is (R111). -/
abbrev State.cyclingKept (s : State) : Prop :=
  ∀ j : EntryNo, (s.context j).state.isCycling = true ↔ s.target.current = some j

/-- At most one context holds a requester and tag; an orphan holds no key (R74, R92). -/
abbrev State.keysKept (s : State) : Prop :=
  ∀ i j : EntryNo, (s.context i).state ≠ .free → (s.context i).orphan = .clear → (s.context j).state ≠ .free →
    (s.context j).orphan = .clear → (s.context i).requester = (s.context j).requester →
    (s.context i).tag = (s.context j).tag → i = j

/-- No consequence of an earlier event waits for a command of its own to be taken (log entry 3): no peer is due to fall silent,
the link unit has neither a fault to report nor a frame to age, and no answer timer has passed its reservation's end. -/
abbrev State.nothingDue (s : State) : Prop :=
  (∀ d : StationNo, s.silenceDue d = false) ∧ s.link.transmitFaults < 4 ∧ s.link.lostCount < 4 ∧
    ((∀ i : Tag, (s.slot i).state.isAwaiting = false) ∨ s.answerTimerDue = false)

/-- While RESETN is asserted every block stays in its cold-reset values (R175, R187). -/
abbrev State.resetKept (s : State) : Prop :=
  s.hostPort.resetAsserted = true → s = State.cold s.own s.link.rate s.target.pins true s.pending

/-- All the conditions together. -/
structure State.Safe (s : State) : Prop where
  staging    : s.stagingCanonical
  queues     : s.queuesKept
  lock       : s.lockKept
  ownRecord  : s.ownRecordKept
  linkCounts : s.linkCountsKept
  silent     : s.silentWhenOff
  exchanges  : s.exchangesKept
  cycling    : s.cyclingKept
  keys       : s.keysKept
  reset      : s.resetKept

end Sys2Proof.Machine
end

