-- ==== Sys2Proof/Certificates/Slice0/Obligations.lean ====
section
/-! DEFINITION. The statements for the provers. A next state written as an update of `s` says by its form that everything it does
not name is unchanged. Statements about a choice of the model, and not of the manual, name their log entry. -/

section

open Sys2Proof Sys2Proof.Machine

/-! ### The block as a whole -/

/-- A step with a command at the front of the queue is the command's effect with the rest of the queue. -/
def Obligations.StepRunsTheFrontCommand : Prop :=
  ∀ (s : State) (c : Instr) (rest : List Instr),
    step { s with pending := c :: rest } = exec c { s with pending := rest }

/-- With no command waiting a step changes nothing: the model's choice, log entry 2. -/
def Obligations.StepIdlesWithNoCommand : Prop :=
  ∀ s : State, s.pending = [] → step s = .next s

/-- No command changes the queue of waiting commands, the resets included: the queue, and that it stays across a reset, are the model's,
log entries 14 and 17. -/
def Obligations.CommandsLeaveTheQueue : Prop :=
  ∀ (c : Instr) (s t : State), exec c s = .next t → t.pending = s.pending

/-- What each kind of state is changed by, and by nothing else: the own number and the rate by a cold reset (R128, R160); the
station parameters and the window table by a configuration write in OFFLINE and by a cold reset (R97, R161); the request queue by
PUSH, a dispatch, a direct completion and the resets (R4); the completion records by the arbiter's two writes, POP-COMPLETION
and the resets (R177); staging memory by a host write, an answer and a cold reset (R22); the descriptor-build registers, the page
and the enables by a register write and a cold reset (R2, R185, R191); a slot becomes FREE only by its record being written and by
the resets (R20), and its generation changes only at dispatch and by the resets (R7). -/
def Obligations.OnlyTheseCommandsChangeIt : Prop :=
  ∀ (c : Instr) (s t : State), exec c s = .next t → (∀ straps held, c ≠ .coldReset straps held) →
    t.own = s.own ∧ t.link.rate = s.link.rate ∧
    ((∀ a d l, c ≠ .configurationWrite a d l) ∨ s.controller.station ≠ .offline →
      t.controller.parameters = s.controller.parameters ∧ t.windows = s.windows) ∧
    (c ≠ .push → c ≠ .dispatch → c ≠ .directCompletion → c ≠ .softReset →
      t.requester.queue = s.requester.queue) ∧
    (c ≠ .popCompletion → c ≠ .slotCompletionWrite → c ≠ .directCompletion → c ≠ .softReset →
      t.completions.records = s.completions.records) ∧
    ((∀ a d l, c ≠ .stagingWrite a d l) → (∀ f, c ≠ .frameReceived f) → t.staging = s.staging) ∧
    ((∀ a d l, c ≠ .registerWrite a d l) →
      t.hostPort.build = s.hostPort.build ∧ t.hostPort.page = s.hostPort.page ∧
        t.hostPort.completionEnable = s.hostPort.completionEnable ∧
        t.hostPort.noticeEnable = s.hostPort.noticeEnable) ∧
    (c ≠ .slotCompletionWrite → c ≠ .softReset →
      ∀ i : Tag, (t.slot i).state = .free → (s.slot i).state = .free) ∧
    (c ≠ .dispatch → c ≠ .softReset → ∀ i : Tag, (t.slot i).generation = (s.slot i).generation)

/-! ### Host commands -/

/-- PUSH refuses an invalid descriptor, then a full queue, and otherwise appends the copy of the build
registers (R3). -/
def Obligations.PushTakesOrRefusesTheDescriptor : Prop :=
  ∀ s : State, s.hostPort.resetAsserted = false →
    let b := s.hostPort.build
    let valid : Prop :=
      b.kind = 3 ∨
        ((b.kind = 1 ∨ b.kind = 2) ∧ b.destination.toNat ≠ s.own.val ∧ 1 ≤ b.length.toNat ∧ b.length.toNat ≤ 256 ∧
          b.stagingOffset.toNat + b.length.toNat ≤ 8192)
    (¬valid → exec .push s = .next { s with hostPort := { s.hostPort with result := .refusedInvalid } }) ∧
    (valid → 16 ≤ s.requester.queue.length →
      exec .push s = .next { s with hostPort := { s.hostPort with result := .refusedFull } }) ∧
    (valid → s.requester.queue.length < 16 →
      ∃ k : DescriptorKind, k.code = b.kind.toNat ∧
        let d : Descriptor :=
          { kind := k, destination := Fin.ofNat 32 b.destination.toNat, remoteAddress := b.remoteAddress,
            length := b.length.toNat, stagingOffset := b.stagingOffset.toNat, urgency := Fin.ofNat 8 b.urgency.toNat,
            cookie := b.cookie, notify := b.notify }
        exec .push s = .next
          { s with
            requester := { s.requester with
              queue := s.requester.queue ++ [d], fenceWait := fenceAtHead (s.requester.queue ++ [d]) }
            hostPort := { s.hostPort with result := .accepted } })

/-- POP-COMPLETION removes the head record, lowers the notify count for a flagged one and releases the capture; POP-NOTICE removes
the head notice and leaves NOTICES-LOST; on an empty queue each is refused and changes nothing else (R180, R181, R184). -/
def Obligations.PopsRemoveTheHead : Prop :=
  ∀ s : State, s.hostPort.resetAsserted = false →
    (∀ r rest, s.completions.records = r :: rest →
      exec .popCompletion s = .next
        { s with
          completions :=
            { records := rest
              notifyCount := if r.notify then s.completions.notifyCount - 1 else s.completions.notifyCount
              capture := none }
          hostPort := { s.hostPort with result := .accepted } }) ∧
    (s.completions.records = [] →
      exec .popCompletion s = .next { s with hostPort := { s.hostPort with result := .refusedEmpty } }) ∧
    (∀ n rest, s.notices.records = n :: rest →
      exec .popNotice s = .next
        { s with
          notices := { records := rest, lost := s.notices.lost, capture := none }
          hostPort := { s.hostPort with result := .accepted } }) ∧
    (s.notices.records = [] →
      exec .popNotice s = .next { s with hostPort := { s.hostPort with result := .refusedEmpty } })

/-- JOIN in OFFLINE, with every parameter in its range and every valid window well formed, locks the configuration, computes the
digest, starts the two timers and enters LISTENING at the first gap (R99, R161, R162, R163). -/
def Obligations.JoinLocksAndListens : Prop :=
  ∀ s : State, s.hostPort.resetAsserted = false → s.controller.station = .offline →
    (∀ p : Fin 10,
      let r := (#v[(4, 255), (1, 255), (1, 255), (1, 255), (0, 15), (1, 15), (1, 255), (1, 15), (8, 255), (8, 255)] :
        Vector (Nat × Nat) 10)[p]
      r.1 ≤ s.controller.parameters[p].toNat ∧ s.controller.parameters[p].toNat ≤ r.2) →
    (∀ n : EntryNo, s.windows[n].valid = true →
      8 ≤ s.windows[n].sizeExponent.toNat ∧ s.windows[n].sizeExponent.toNat ≤ 24 ∧
        s.windows[n].spanBase.toNat % 2 ^ s.windows[n].sizeExponent.toNat = 0 ∧
        s.windows[n].localBase.toNat + 2 ^ s.windows[n].sizeExponent.toNat ≤ 2 ^ 24 ∧
        s.windows[n].access ≠ 0 ∧ s.windows[n].widthCap ≠ 0) →
    exec .join s = .next
      { s with
        controller := { s.controller with
          station := .listening, locked := true, beaconSequence := 0, pendingBeacon := none,
          listenTimer := some (2 * s.controller.parameters[1].toNat),
          beaconTimer := some s.controller.parameters[1].toNat }
        link := { s.link with
          ownDigest := some (crc16 [s.controller.parameters[0], s.controller.parameters[1],
            BitVec.ofNat 8 s.link.rate.val, 1]),
          transmitFaults := 0, medium := .gap, gap := .first }
        hostPort := { s.hostPort with result := .accepted } }

/-- JOIN outside OFFLINE is refused; in OFFLINE it names the first parameter out of range, or with every parameter in range the
lowest-numbered valid window that is not well formed, and changes only that detail and the result (R100, R162). -/
def Obligations.JoinNamesTheFirstFault : Prop :=
  ∀ s : State, s.hostPort.resetAsserted = false →
    let inRange : Fin 10 → Prop := fun p =>
      let r := (#v[(4, 255), (1, 255), (1, 255), (1, 255), (0, 15), (1, 15), (1, 255), (1, 15), (8, 255), (8, 255)] :
        Vector (Nat × Nat) 10)[p]
      r.1 ≤ s.controller.parameters[p].toNat ∧ s.controller.parameters[p].toNat ≤ r.2
    let wellFormed : EntryNo → Prop := fun n =>
      8 ≤ s.windows[n].sizeExponent.toNat ∧ s.windows[n].sizeExponent.toNat ≤ 24 ∧
        s.windows[n].spanBase.toNat % 2 ^ s.windows[n].sizeExponent.toNat = 0 ∧
        s.windows[n].localBase.toNat + 2 ^ s.windows[n].sizeExponent.toNat ≤ 2 ^ 24 ∧
        s.windows[n].access ≠ 0 ∧ s.windows[n].widthCap ≠ 0
    (s.controller.station ≠ .offline →
      exec .join s = .next { s with hostPort := { s.hostPort with result := .refusedState } }) ∧
    (∀ p, s.controller.station = .offline → ¬inRange p → (∀ q, q < p → inRange q) →
      exec .join s = .next
        { s with
          controller := { s.controller with faultDetail := .parameter p }
          hostPort := { s.hostPort with result := .refusedInvalid } }) ∧
    (∀ n, s.controller.station = .offline → (∀ p, inRange p) → s.windows[n].valid = true → ¬wellFormed n →
      (∀ m, m < n → s.windows[m].valid = true → wellFormed m) →
      exec .join s = .next
        { s with
          controller := { s.controller with faultDetail := .windowEntry n }
          hostPort := { s.hostPort with result := .refusedInvalid } })

/-- LEAVE in LISTENING turns the receiver off, stops the timers, clears the peer table and unlocks; in ISOLATED it unlocks; in
OFFLINE and LEAVING it is refused (R166, R171, R174). -/
def Obligations.LeaveReturnsToOffline : Prop :=
  ∀ s : State, s.hostPort.resetAsserted = false →
    (s.controller.station = .listening →
      exec .leave s = .next
        { s with
          link := { s.link with
            medium := .gap, gap := .first, layout := .contended, followTail := false, contending := false, tx := none,
            begun := false, answer := none, answerBegun := false, ownDigest := none }
          peers := Vector.ofFn fun d =>
            { state := if d = s.own then .self else .absent, silenceCount := 0, lastSequence := none }
          controller := { s.controller with
            station := .offline, locked := false, listenTimer := none, beaconTimer := none }
          hostPort := { s.hostPort with result := .accepted } }) ∧
    (s.controller.station = .isolated →
      exec .leave s = .next
        { s with
          link := { s.link with ownDigest := none }
          controller := { s.controller with station := .offline, locked := false }
          hostPort := { s.hostPort with result := .accepted } }) ∧
    (s.controller.station = .offline ∨ s.controller.station = .leaving →
      exec .leave s = .next { s with hostPort := { s.hostPort with result := .refusedState } })

/-- LEAVE in ACTIVE or QUIET enters LEAVING: waiting slots end with STATION-LEAVING, in consecutive places of the done order by dispatch
sequence, an exchange in flight records it unless an ending is recorded already, the pending beacon is dropped, and a frame that has
not begun is withdrawn (R61, R67, R171). Whenever no slot is AWAITING or CONTENDING and no context QUEUED or CYCLING, at entry or
later, the LEAVING beacon is queued, unless it is queued already (R172). Of two slots with an equal dispatch sequence, which no run
makes, the lower goes first, log entry 13. -/
def Obligations.LeaveStartsTheLeavingSequence : Prop :=
  (∀ t : State,
    let ends : Prop := t.controller.station = .leaving ∧
      (∀ i, (t.slot i).state.isAwaiting = false ∧ (t.slot i).state.isContending = false) ∧
      (∀ j, (t.context j).state ≠ .queued ∧ (t.context j).state ≠ .cycling) ∧
      (∀ p, t.controller.pendingBeacon = some p → p.state ≠ .leaving) ∧
      (∀ b, t.link.tx = some (.beacon b) → b.state ≠ .leaving)
    (ends → t.checkLeaving = t.queueBeacon { state := .leaving, wakeLevel := 0 }) ∧ (¬ends → t.checkLeaving = t)) ∧
  ∀ s : State, s.hostPort.resetAsserted = false →
    (s.controller.station = .active ∨ ∃ l, s.controller.station = .quiet l) →
    let flying : Tag → Bool := fun i =>
      (s.slot i).state.isAwaiting || ((s.slot i).state.isContending && s.link.begun)
    let waiting : Tag → Bool := fun i =>
      !(s.slot i).state.isFree && !(s.slot i).state.isDone && !flying i
    let before : Tag → Tag → Bool := fun j i =>
      (s.slot j).dispatchSeq < (s.slot i).dispatchSeq || ((s.slot j).dispatchSeq == (s.slot i).dispatchSeq && j < i)
    exec .leave s = .next
      (State.checkLeaving
        { s with
          requester := { s.requester with
            doneNext := s.requester.doneNext + (List.finRange 8).countP waiting
            slots := Vector.ofFn fun i =>
              if waiting i then
                { s.slot i with
                  state := .done .stationLeaving
                    (s.requester.doneNext + (List.finRange 8).countP fun j => waiting j && before j i) }
              else if flying i then
                { s.slot i with deferred := some ((s.slot i).deferred.getD .stationLeaving) }
              else s.slot i }
          link := if s.link.begun then s.link else { s.link with tx := none, begun := false, contending := false }
          controller := { s.controller with station := .leaving, pendingBeacon := none }
          hostPort := { s.hostPort with result := .accepted } })

/-- QUIET(L) from ACTIVE withdraws an unbegun SEGMENT to READY, enters QUIET and queues a QUIET beacon; from QUIET it changes the
level and queues one; WAKE returns to ACTIVE and queues an ACTIVE beacon; elsewhere they are refused. Queuing a beacon replaces
the content of a loaded beacon whose transmission has not begun, and otherwise sets the pending beacon (R60, R132, R167, R168,
R170). -/
def Obligations.QuietAndWakeQueueTheirBeacons : Prop :=
  (∀ (s : State) (p : PendingBeacon), s.queueBeacon p =
      match s.link.tx, s.link.begun with
      | some (.beacon _), false =>
        { s with link := { s.link with
            tx := some (.beacon { state := p.state, wakeLevel := p.wakeLevel, sequence := s.controller.beaconSequence,
                                  digest := s.link.ownDigest.getD 0 }) } }
      | _, _ => { s with controller := { s.controller with pendingBeacon := some p } }) ∧
  ∀ s : State, s.hostPort.resetAsserted = false →
    (∀ l : Urgency, s.controller.station = .active →
      exec (.quiet (BitVec.ofNat 8 l.val)) s = .next
        (State.queueBeacon
          { s with
            requester := { s.requester with
              slots := Vector.ofFn fun i =>
                if (s.slot i).state.isContending && !s.link.begun then { s.slot i with state := .ready } else s.slot i }
            link :=
              match s.link.tx, s.link.begun with
              | some (.segment _ _), false => { s.link with tx := none, begun := false, contending := false }
              | _, _ => s.link
            controller := { s.controller with station := .quiet l }
            hostPort := { s.hostPort with result := .accepted } }
          { state := .quiet, wakeLevel := l })) ∧
    (∀ l k : Urgency, s.controller.station = .quiet k →
      exec (.quiet (BitVec.ofNat 8 l.val)) s = .next
        (State.queueBeacon
          { s with
            controller := { s.controller with station := .quiet l }
            hostPort := { s.hostPort with result := .accepted } }
          { state := .quiet, wakeLevel := l })) ∧
    (∀ a : Byte, (s.controller.station = .active ∨ ∃ k, s.controller.station = .quiet k) → 7 < a.toNat →
      exec (.quiet a) s = .next { s with hostPort := { s.hostPort with result := .refusedInvalid } }) ∧
    (∀ a : Byte, s.controller.station ≠ .active → (∀ k, s.controller.station ≠ .quiet k) →
      exec (.quiet a) s = .next { s with hostPort := { s.hostPort with result := .refusedState } }) ∧
    (∀ k, s.controller.station = .quiet k →
      exec .wake s = .next
        (State.queueBeacon
          { s with
            controller := { s.controller with station := .active }
            hostPort := { s.hostPort with result := .accepted } }
          { state := .active, wakeLevel := 0 })) ∧
    ((∀ k, s.controller.station ≠ .quiet k) →
      exec .wake s = .next { s with hostPort := { s.hostPort with result := .refusedState } })

/-- ABORT(tag) by the slot's state: a tag above 7 and a FREE or DONE slot are refused; an exchange in flight gets the abort mark; any
other slot is DONE with ABORTED at once, an unbegun frame withdrawn. The end of a slot changes, besides it, only BEHIND slots of its
destination: those that become DONE with it take the places after its own in the done order, and the order goes on after the last
(R29, R41, R63, R67). -/
def Obligations.AbortActsByTheSlotState : Prop :=
  ∀ s : State, s.hostPort.resetAsserted = false →
    (∀ a : Byte, 7 < a.toNat →
      exec (.abort a) s = .next { s with hostPort := { s.hostPort with result := .refusedInvalid } }) ∧
    ∀ i : Tag,
      let flying := (s.slot i).state.isAwaiting || ((s.slot i).state.isContending && s.link.begun)
      (((s.slot i).state.isFree || (s.slot i).state.isDone) = true →
        exec (.abort (BitVec.ofNat 8 i.val)) s = .next { s with hostPort := { s.hostPort with result := .refusedState } }) ∧
      (flying = true →
        exec (.abort (BitVec.ofNat 8 i.val)) s = .next
          { s with
            requester := { s.requester with slots := s.requester.slots.set i { s.slot i with abortMark := true } }
            hostPort := { s.hostPort with result := .accepted } }) ∧
      ((s.slot i).state.isFree = false → (s.slot i).state.isDone = false → flying = false →
        ∃ t, exec (.abort (BitVec.ofNat 8 i.val)) s = .next t ∧
          t = State.endSlot
            { s with
              link := if (s.slot i).state.isContending then { s.link with tx := none, begun := false, contending := false }
                      else s.link
              hostPort := { s.hostPort with result := .accepted } } i .aborted ∧
          t.slot i = { s.slot i with state := .done .aborted s.requester.doneNext } ∧
          (∀ j, j ≠ i → (s.slot j).state ≠ .behind ∨ (s.slot j).descriptor.destination ≠ (s.slot i).descriptor.destination →
            t.slot j = s.slot j) ∧
          (∀ j, j ≠ i → (s.slot j).state = .behind → (t.slot j).state.isDone = true →
            s.requester.doneNext < (t.slot j).state.order ∧ (t.slot j).state.order < t.requester.doneNext ∧
              ∀ k, k ≠ j → (s.slot k).state = .behind → (t.slot k).state.isDone = true →
                (t.slot k).state.order ≠ (t.slot j).state.order) ∧
          t.requester.doneNext =
            s.requester.doneNext +
              (List.finRange 8).countP (fun j => (t.slot j).state.isDone && !(s.slot j).state.isDone) ∧
          t = { s with
            requester := { s.requester with slots := t.requester.slots, doneNext := t.requester.doneNext }
            link := t.link
            hostPort := { s.hostPort with result := .accepted } })

/-- ABORT-ALL ends every waiting slot with ABORTED, in consecutive places of the done order by dispatch sequence, marks every exchange in
flight, withdraws an unbegun SEGMENT, and sets the drain count to the number of descriptors queued (R14, R66, R67). Of two slots with an
equal dispatch sequence, which no run makes, the lower goes first, log entry 13. -/
def Obligations.AbortAllEndsWaitingSlotsAndDrains : Prop :=
  ∀ s : State, s.hostPort.resetAsserted = false →
    let flying : Tag → Bool := fun i =>
      (s.slot i).state.isAwaiting || ((s.slot i).state.isContending && s.link.begun)
    let waiting : Tag → Bool := fun i =>
      !(s.slot i).state.isFree && !(s.slot i).state.isDone && !flying i
    let before : Tag → Tag → Bool := fun j i =>
      (s.slot j).dispatchSeq < (s.slot i).dispatchSeq || ((s.slot j).dispatchSeq == (s.slot i).dispatchSeq && j < i)
    exec .abortAll s = .next
      { s with
        requester := { s.requester with
          drainCount := s.requester.queue.length
          doneNext := s.requester.doneNext + (List.finRange 8).countP waiting
          slots := Vector.ofFn fun i =>
            if waiting i then
              { s.slot i with
                state := .done .aborted
                  (s.requester.doneNext + (List.finRange 8).countP fun j => waiting j && before j i) }
            else if flying i then { s.slot i with abortMark := true }
            else s.slot i }
        link :=
          match s.link.tx, s.link.begun with
          | some (.segment _ _), false => { s.link with tx := none, begun := false, contending := false }
          | _, _ => s.link
        hostPort := { s.hostPort with result := .accepted } }

/-- CLEAR-FLAGS clears NOTICES-LOST, CONFIG-LOCKED and the CRC error count and nothing else; a code that names no command is refused
and changes nothing else (R188, R189). A word written to the command register issues the command of the code in its bits 7 to 0, with
the argument in its bits 15 to 8 (R188, spec/12_layouts.md 12.3), and a write to any other address issues the command of that
address's register group (R187). That a write of one byte to the command register issues the command of all its data lines is the
model's choice, log entry 23, that an access with no byte strobe is none is log entry 4, and that a
read of one byte of a view's first word captures as a read of the word does is log entry 29. -/
def Obligations.ClearFlagsAndUnassignedCodes : Prop :=
  (∀ s : State, s.hostPort.resetAsserted = false →
    exec .clearFlags s = .next
      { s with
        notices := { s.notices with lost := false }
        link := { s.link with crcErrors := 0 }
        hostPort := { s.hostPort with configLocked := false, result := .accepted } } ∧
    ∀ code : Byte, code.toNat = 0 ∨ 12 ≤ code.toNat →
      exec (.unassignedCommandCode code) s = .next { s with hostPort := { s.hostPort with result := .refusedInvalid } }) ∧
  (∀ (w : Word) (l : Lanes), l.low = true ∨ l.high = true →
    let code := w.toNat % 256
    let argument : Byte := BitVec.ofNat 8 (w.toNat / 256)
    hostWrite 0x00 w l =
      some
        (if code = 1 then .push else if code = 2 then .popCompletion else if code = 3 then .popNotice
         else if code = 4 then .join else if code = 5 then .leave else if code = 6 then .quiet argument
         else if code = 7 then .wake else if code = 8 then .abort argument else if code = 9 then .abortAll
         else if code = 10 then .clearFlags else if code = 11 then .softReset
         else .unassignedCommandCode (BitVec.ofNat 8 code))) ∧
  (∀ (a : Byte) (w : Word) (l : Lanes),
    (l.low = false → l.high = false → hostWrite a w l = none) ∧
    (∀ c, hostWrite a w l = some c → WellFormed c = true) ∧
    (l.low = true ∨ l.high = true →
      (a.toNat = 0x08 → hostWrite a w l = some (.peerIndexWrite w l)) ∧
      (isConfigurationAddress a = true → hostWrite a w l = some (.configurationWrite a w l)) ∧
      (isStagingAddress a = true → hostWrite a w l = some (.stagingWrite a w l)) ∧
      (isPlainAddress a = true → hostWrite a w l = some (.registerWrite a w l)))) ∧
  ∀ a : Byte, hostReadCapture a =
    if a.toNat = 0x02 then some .statusCapture else if a.toNat = 0x09 then some .peerRecordCapture
    else if a.toNat = 0x20 then some .completionHeadCapture else if a.toNat = 0x28 then some .noticeHeadCapture else none

/-- What the two resets leave, block by block. A soft reset keeps staging memory, the windows, the parameters, the own number, the
rate, the CRC error count, the config fault detail and the host's registers; both restart the dispatch sequence, the done order and the
responder's two orders (R5, R21, R22, R95, R98, R125, R145, R157, R175, R189, R194). While RESETN stays asserted host accesses are not
taken: writes are lost and reads return zero (R187). The target bus outputs held across a reset (the direction output among them), the
waiting commands kept, and the operand that says whether RESETN stays asserted are log entries 17 and 24; the orders as numbers
from 0 are log entry 13; field contents of FREE entries are log entry 1. -/
def Obligations.ResetsLeaveTheirValues : Prop :=
  ∀ s : State,
    (s.hostPort.resetAsserted = false → ∃ t, exec .softReset s = .next t ∧
      t.requester.queue = [] ∧ t.requester.drainCount = 0 ∧ t.requester.fenceWait = false ∧
      t.requester.dispatchSeq = 0 ∧ t.requester.doneNext = 0 ∧
      (∀ i, (t.slot i).state = .free ∧ (t.slot i).generation = 0) ∧
      t.staging = s.staging ∧ (∀ j, (t.context j).state = .free ∧ (t.context j).answerOwed = false) ∧
      t.responder.holdTimer = none ∧ t.responder.creationNext = 0 ∧ t.responder.answeredNext = 0 ∧
      t.windows = s.windows ∧
      t.target = { current := none, held := none, cycle := none, retryCount := 0, monitor := .stopped,
                   pins := { s.target.pins with strobe := false, lanes := Vector.replicate 4 none } } ∧
      t.link.rate = s.link.rate ∧ t.link.medium = .gap ∧ t.link.tx = none ∧ t.link.answer = none ∧
      t.link.effectiveUrgency = 0 ∧ t.link.lostCount = 0 ∧ t.link.transmitFaults = 0 ∧
      t.link.crcErrors = s.link.crcErrors ∧ t.link.ownDigest = none ∧ t.drivenFrame = none ∧
      (∀ d, t.peer d =
        { state := if d = s.own then .self else .absent, silenceCount := 0, lastSequence := none }) ∧
      t.controller = { s.controller with
        station := .offline, locked := false, listenTimer := none, beaconTimer := none, pendingBeacon := none,
        beaconSequence := 0 } ∧
      t.completions = { records := [], notifyCount := 0, capture := none } ∧
      t.notices = { records := [], lost := false, capture := none } ∧
      t.hostPort = { s.hostPort with result := .accepted, statusCapture := none, peerCapture := none } ∧
      t.hint = false ∧ t.pending = s.pending) ∧
    (∀ (straps : Straps) (held : Bool), ∃ t, exec (.coldReset straps held) s = .next t ∧
      t.requester.queue = [] ∧ t.requester.drainCount = 0 ∧ t.requester.fenceWait = false ∧
      t.requester.dispatchSeq = 0 ∧ t.requester.doneNext = 0 ∧
      (∀ i, (t.slot i).state = .free ∧ (t.slot i).generation = 0) ∧
      (∀ a, Memory.read t.staging a = 0) ∧
      (∀ j, (t.context j).state = .free ∧ (t.context j).answerOwed = false) ∧ t.responder.holdTimer = none ∧
      t.responder.creationNext = 0 ∧ t.responder.answeredNext = 0 ∧
      (∀ n : EntryNo, t.windows[n] =
        { valid := false, sizeExponent := 0, access := 0, widthCap := 0, burst := false, prefetchable := false,
          spanBase := 0, localBase := 0, requesterMask := 0 }) ∧
      t.target = { current := none, held := none, cycle := none, retryCount := 0, monitor := .stopped,
                   pins := { s.target.pins with strobe := false, lanes := Vector.replicate 4 none } } ∧
      t.link.rate = straps.rate ∧ t.link.medium = .gap ∧ t.link.tx = none ∧ t.link.answer = none ∧
      t.link.effectiveUrgency = 0 ∧ t.link.lostCount = 0 ∧ t.link.transmitFaults = 0 ∧ t.link.crcErrors = 0 ∧
      t.link.ownDigest = none ∧ t.drivenFrame = none ∧
      (∀ d, t.peer d =
        { state := if d = straps.sid then .self else .absent, silenceCount := 0, lastSequence := none }) ∧
      t.controller =
        { station := .offline, ownNumber := straps.sid, parameters := #v[40, 10, 20, 16, 3, 8, 32, 3, 50, 100],
          locked := false, faultDetail := .none, listenTimer := none, beaconTimer := none, pendingBeacon := none,
          beaconSequence := 0 } ∧
      t.completions = { records := [], notifyCount := 0, capture := none } ∧
      t.notices = { records := [], lost := false, capture := none } ∧
      t.hostPort =
        { resetAsserted := held, result := .accepted, page := 0, peerIndex := 0,
          build := { kind := 0, destination := 0, remoteAddress := 0, length := 0, stagingOffset := 0, urgency := 0,
                     cookie := 0, notify := false },
          completionEnable := false, noticeEnable := false, configLocked := false, statusCapture := none,
          peerCapture := none } ∧
      t.hint = false ∧ t.pending = s.pending) ∧
    (s.hostPort.resetAsserted = true →
      (∀ a, s.hostRead a = 0) ∧
      ∀ (a : Byte) (v : Word) (l : Lanes) (c : Instr),
        hostWrite a v l = some c ∨ hostReadCapture a = some c → exec c s = .next s)

/-! ### Other host accesses -/

/-- A configuration write outside OFFLINE changes only CONFIG-LOCKED and the result. In OFFLINE the word written reads back with
the strobed halves as written, cut to its listed bits, every other configuration word reads as before, and nothing else changes: a
parameter is the low byte of its word, and a window entry's fields are the bits 12.3 lists for its seven words, the strobed halves from
the data and the others as they were
(R97, R161, R190, R196). An access with no byte strobe is none, log entry 4. -/
def Obligations.ConfigurationWritesNeedOffline : Prop :=
  ∀ (s : State) (a : Byte) (v : Word) (l : Lanes), s.hostPort.resetAsserted = false →
    isConfigurationAddress a = true → l.wellFormed = true →
    (s.controller.station ≠ .offline →
      exec (.configurationWrite a v l) s = .next
        { s with hostPort := { s.hostPort with configLocked := true, result := .refusedLocked } }) ∧
    (s.controller.station = .offline →
      ∃ t, exec (.configurationWrite a v l) s = .next t ∧
        t = { s with
          windows := t.windows, controller := { s.controller with parameters := t.controller.parameters } } ∧
        t.hostRead a =
          mergeLanes (s.hostRead a) v l &&&
            (if a.toNat < 0x40 then 0x00FF
             else if a.toNat % 8 = 0 then 0x0FFF else if a.toNat % 8 = 4 then 0x00FF else 0xFFFF) ∧
        (∀ b : Byte, b ≠ a → isConfigurationAddress b = true → t.hostRead b = s.hostRead b) ∧
        let merged (old : Nat) : Nat :=
          (if l.low then v.toNat % 256 else old % 256) + 256 * (if l.high then v.toNat / 256 else old / 256 % 256)
        let flag (b : Bool) : Nat := if b then 1 else 0
        (∀ old : Word, (mergeLanes old v l).toNat = merged old.toNat) ∧
        (∀ p : Fin 10, a.toNat = 0x30 + p.val →
          t.windows = s.windows ∧
            t.controller.parameters =
              s.controller.parameters.set p (BitVec.ofNat 8 (merged s.controller.parameters[p].toNat))) ∧
        ∀ (n : EntryNo) (k : Fin 7), a.toNat = 0x40 + 8 * n.val + k.val →
          let e := s.windows[n]
          let m := merged
            (flag e.valid + 2 * e.sizeExponent.toNat + 64 * e.access.toNat + 256 * e.widthCap.toNat +
              1024 * flag e.burst + 2048 * flag e.prefetchable)
          let base := e.spanBase.toNat
          let mask := e.requesterMask.toNat
          let local' := e.localBase.toNat
          t.controller.parameters = s.controller.parameters ∧
          t.windows = s.windows.set n
            (#v[{ e with
                  valid := m % 2 == 1, sizeExponent := BitVec.ofNat 5 (m / 2), access := BitVec.ofNat 2 (m / 64)
                  widthCap := BitVec.ofNat 2 (m / 256), burst := m / 1024 % 2 == 1, prefetchable := m / 2048 % 2 == 1 },
                { e with spanBase := BitVec.ofNat 32 (merged (base % 65536) + 65536 * (base / 65536)) },
                { e with spanBase := BitVec.ofNat 32 (base % 65536 + 65536 * merged (base / 65536)) },
                { e with localBase := BitVec.ofNat 24 (merged (local' % 65536) + 65536 * (local' / 65536)) },
                { e with localBase := BitVec.ofNat 24 (local' % 65536 + 65536 * merged (local' / 65536)) },
                { e with requesterMask := BitVec.ofNat 32 (merged (mask % 65536) + 65536 * (mask / 65536)) },
                { e with requesterMask := BitVec.ofNat 32 (mask % 65536 + 65536 * merged (mask / 65536)) }] :
              Vector WindowEntry 7)[k])

/-- A host write at byte offset `k = 2w` of the data window stores the strobed bytes at page × 128 + k and the next address, and
every other byte of staging memory reads as before (R191). -/
def Obligations.StagingWriteStoresTheStrobedBytes : Prop :=
  ∀ (s : State) (w : Fin 64) (v : Word) (l : Lanes), s.hostPort.resetAsserted = false → s.stagingCanonical →
    ∃ m, exec (.stagingWrite (BitVec.ofNat 8 (0x80 + w.val)) v l) s = .next { s with staging := m } ∧
      Memory.wf m = true ∧
      ∀ x, Memory.read m x =
        if x = s.hostPort.page.toNat * 128 + 2 * w.val ∧ l.low = true then BitVec.ofNat 8 v.toNat
        else if x = s.hostPort.page.toNat * 128 + 2 * w.val + 1 ∧ l.high = true then BitVec.ofNat 8 (v.toNat / 256)
        else Memory.read s.staging x

/-- A register write stores the listed bits of a descriptor-build register, of the enables or of the page register, in the strobed
halves, a build register's fields being the bits 12.3 lists for its nine words; every other such word ignores it (R2, R185, R187, R191, R196). -/
def Obligations.RegisterWritesStoreListedBits : Prop :=
  ∀ (s : State) (a : Byte) (v : Word) (l : Lanes), 
    s.hostPort.resetAsserted = false → isPlainAddress a = true →
    (0x10 ≤ a.toNat ∧ a.toNat ≤ 0x18 →
      ∃ b, exec (.registerWrite a v l) s = .next { s with hostPort := { s.hostPort with build := b } } ∧
        ∀ k : Fin 9, buildWord b k =
          if a.toNat = 0x10 + k.val then
            mergeLanes (buildWord s.hostPort.build k) v l &&&
              (#v[0x0003, 0x001F, 0xFFFF, 0xFFFF, 0xFFFF, 0xFFFF, 0x0007, 0xFFFF, 0x0001] : Vector Word 9)[k]
          else buildWord s.hostPort.build k) ∧
    (let merged (old : Nat) : Nat :=
        (if l.low then v.toNat % 256 else old % 256) + 256 * (if l.high then v.toNat / 256 else old / 256 % 256)
      let d := s.hostPort.build
      let address := d.remoteAddress.toNat
      (∀ old : Word, (mergeLanes old v l).toNat = merged old.toNat) ∧
      ∀ k : Fin 9, a.toNat = 0x10 + k.val →
        exec (.registerWrite a v l) s = .next
          { s with hostPort := { s.hostPort with
              build :=
                (#v[{ d with kind := BitVec.ofNat 2 (merged d.kind.toNat) },
                    { d with destination := BitVec.ofNat 5 (merged d.destination.toNat) },
                    { d with remoteAddress := BitVec.ofNat 32 (merged (address % 65536) + 65536 * (address / 65536)) },
                    { d with remoteAddress := BitVec.ofNat 32 (address % 65536 + 65536 * merged (address / 65536)) },
                    { d with length := BitVec.ofNat 16 (merged d.length.toNat) },
                    { d with stagingOffset := BitVec.ofNat 16 (merged d.stagingOffset.toNat) },
                    { d with urgency := BitVec.ofNat 3 (merged d.urgency.toNat) },
                    { d with cookie := BitVec.ofNat 16 (merged d.cookie.toNat) },
                    { d with notify := merged (if d.notify then 1 else 0) % 2 == 1 }] : Vector DescriptorBuild 9)[k] } }) ∧
    (a.toNat = 0x06 →
      exec (.registerWrite a v l) s = .next
        { s with hostPort := { s.hostPort with
            completionEnable := if l.low then v.getLsbD 0 else s.hostPort.completionEnable
            noticeEnable := if l.low then v.getLsbD 1 else s.hostPort.noticeEnable } }) ∧
    (a.toNat = 0x07 →
      exec (.registerWrite a v l) s = .next
        { s with hostPort := { s.hostPort with
            page := if l.low then BitVec.ofNat 6 (v.toNat % 64) else s.hostPort.page } }) ∧
    (¬(0x10 ≤ a.toNat ∧ a.toNat ≤ 0x18) → a.toNat ≠ 0x06 → a.toNat ≠ 0x07 → exec (.registerWrite a v l) s = .next s)

/-- Reading the first word of a view, or writing the peer index, captures the whole item and changes nothing else; the read returns the
item's first word, and while the capture stands the other words return it, or with none the item as it stands (R158, R180, R184, R187,
R193). The bits of each view and the other registers' reads are those of 12.3: the command result, the CRC error count, the two enables,
the page, the peer index, the build registers, the parameters and the two bytes of a staging word; an address outside the map reads 0
(R49, R68, R187, R191, R196). A peer index write of the high half alone keeps the index and still captures, log entry 21, and a read of one
byte of a first word captures too, log entry 29. -/
def Obligations.ViewsAreReadAsSnapshots : Prop :=
  let bits (w : Word) (lo n : Nat) : Nat := w.toNat / 2 ^ lo % 2 ^ n
  let flag (b : Bool) : Nat := if b then 1 else 0
  (∀ s : State, s.hostPort.resetAsserted = false →
    exec .statusCapture s = .next { s with hostPort := { s.hostPort with statusCapture := some s.statusItems } } ∧
    exec .completionHeadCapture s =
      .next { s with completions := { s.completions with capture := some s.completions.records.head? } } ∧
    exec .noticeHeadCapture s = .next { s with notices := { s.notices with capture := some s.notices.records.head? } } ∧
    exec .peerRecordCapture s =
      .next { s with hostPort := { s.hostPort with peerCapture := some (s.peer s.hostPort.peerIndex) } } ∧
    (∀ (v : Word) (l : Lanes), l.wellFormed = true →
      let n : StationNo := if l.low then Fin.ofNat 32 (v.toNat % 32) else s.hostPort.peerIndex
      exec (.peerIndexWrite v l) s =
        .next { s with hostPort := { s.hostPort with peerIndex := n, peerCapture := some (s.peer n) } }) ∧
    (∀ (items : StatusItems) (k : Fin 3), k ≠ 0 → s.hostPort.statusCapture = some items →
      s.hostRead (BitVec.ofNat 8 (0x02 + k.val)) = statusWord items k) ∧
    (∀ (r : Option CompletionRecord) (k : Fin 6), k ≠ 0 → s.completions.capture = some r →
      s.hostRead (BitVec.ofNat 8 (0x20 + k.val)) = completionWord r k) ∧
    (∀ n : Option Notice, s.notices.capture = some n → s.hostRead 0x29 = noticeWord n 1) ∧
    (∀ p : PeerRecord, s.hostPort.peerCapture = some p → s.hostRead 0x0A = peerWord p 1) ∧
    (s.hostPort.peerCapture = none → s.hostRead 0x0A = peerWord (s.peer s.hostPort.peerIndex) 1) ∧
    (s.notices.capture = none → s.hostRead 0x29 = noticeWord s.notices.records.head? 1) ∧
    (∀ k : Fin 6, k ≠ 0 → s.completions.capture = none →
      s.hostRead (BitVec.ofNat 8 (0x20 + k.val)) = completionWord s.completions.records.head? k) ∧
    (∀ k : Fin 3, k ≠ 0 → s.hostPort.statusCapture = none →
      s.hostRead (BitVec.ofNat 8 (0x02 + k.val)) = statusWord s.statusItems k) ∧
    s.statusItems =
      { station := s.controller.station, ownNumber := s.controller.ownNumber
        requestCount := s.requester.queue.length, completions := s.completions.records.length
        notices := s.notices.records.length, noticesLost := s.notices.lost, configLocked := s.hostPort.configLocked
        faultDetail := s.controller.faultDetail, transmitFaults := s.link.transmitFaults } ∧
    s.hostRead 0x02 = statusWord s.statusItems 0 ∧
    s.hostRead 0x09 = peerWord (s.peer s.hostPort.peerIndex) 0 ∧
    s.hostRead 0x20 = completionWord s.completions.records.head? 0 ∧
    s.hostRead 0x28 = noticeWord s.notices.records.head? 0 ∧
    s.hostRead 0x00 = 0 ∧
    (s.hostRead 0x01).toNat =
      (match s.hostPort.result with
        | .accepted => 0
        | .refusedState => 1
        | .refusedFull => 2
        | .refusedEmpty => 3
        | .refusedInvalid => 4
        | .refusedLocked => 5) ∧
    (s.link.crcErrors ≤ 65535 → (s.hostRead 0x05).toNat = s.link.crcErrors) ∧
    (s.hostRead 0x06).toNat = flag s.hostPort.completionEnable + 2 * flag s.hostPort.noticeEnable ∧
    (s.hostRead 0x07).toNat = s.hostPort.page.toNat ∧ (s.hostRead 0x08).toNat = s.hostPort.peerIndex.val ∧
    (∀ k : Fin 9, s.hostRead (BitVec.ofNat 8 (0x10 + k.val)) = buildWord s.hostPort.build k) ∧
    (∀ p : Fin 10, (s.hostRead (BitVec.ofNat 8 (0x30 + p.val))).toNat = s.controller.parameters[p].toNat) ∧
    (∀ w : Fin 64,
      (s.hostRead (BitVec.ofNat 8 (0x80 + w.val))).toNat =
        (Memory.read s.staging (s.hostPort.page.toNat * 128 + 2 * w.val)).toNat +
          256 * (Memory.read s.staging (s.hostPort.page.toNat * 128 + 2 * w.val + 1)).toNat) ∧
    ∀ a : Byte,
      (0x0B ≤ a.toNat ∧ a.toNat ≤ 0x0F ∨ 0x19 ≤ a.toNat ∧ a.toNat ≤ 0x1F ∨ a.toNat = 0x26 ∨ a.toNat = 0x27 ∨
        0x2A ≤ a.toNat ∧ a.toNat ≤ 0x2F ∨ 0x3A ≤ a.toNat ∧ a.toNat ≤ 0x3F ∨
        0x40 ≤ a.toNat ∧ a.toNat ≤ 0x7F ∧ a.toNat % 8 = 7 ∨ 0xC0 ≤ a.toNat) →
      s.hostRead a = 0) ∧
  (∀ t : StatusItems, t.requestCount ≤ 16 → t.completions ≤ 16 → t.notices ≤ 8 → t.transmitFaults ≤ 4 →
    let w := statusWord t
    bits (w 0) 0 3 =
      (match t.station with
        | .offline => 0
        | .listening => 1
        | .active => 2
        | .quiet _ => 3
        | .leaving => 4
        | .isolated => 5) ∧
    bits (w 0) 3 3 =
      (match t.station with
        | .quiet l => l.val
        | _ => 0) ∧
    bits (w 0) 6 5 = t.ownNumber.val ∧ bits (w 0) 11 1 = flag t.noticesLost ∧ bits (w 0) 12 1 = flag t.configLocked ∧
    bits (w 0) 13 3 = 0 ∧ bits (w 1) 0 5 = t.requestCount ∧ bits (w 1) 5 5 = t.completions ∧
    bits (w 1) 10 4 = t.notices ∧ bits (w 1) 14 2 = 0 ∧
    (match t.faultDetail with
      | .none => bits (w 2) 0 2 = 0 ∧ bits (w 2) 2 4 = 0
      | .parameter p => bits (w 2) 0 2 = 1 ∧ bits (w 2) 2 4 = p.val
      | .windowEntry n => bits (w 2) 0 2 = 2 ∧ bits (w 2) 2 4 = n.val) ∧
    bits (w 2) 6 3 = t.transmitFaults ∧ bits (w 2) 9 7 = 0) ∧
  (∀ r : CompletionRecord, r.bytesDone ≤ 256 → r.segmentsSent ≤ 65535 → r.retries ≤ 65535 →
    let w := completionWord (some r)
    w 0 = r.cookie ∧
    bits (w 1) 0 4 =
      (match r.tag with
        | none => 0xF
        | some i => i.val) ∧
    bits (w 1) 4 4 = r.generation.val ∧
    bits (w 1) 8 2 =
      (match r.kind with
        | .read => 1
        | .write => 2
        | .fence => 3) ∧
    bits (w 1) 10 5 = r.destination.val ∧ bits (w 1) 15 1 = flag r.notify ∧
    ([.ok, .aborted, .refused .noWindow, .refused .access, .refused .denied, .refused .targetError,
        .refused .targetTimeout, .refused .targetRetry, .refused .replayLost, .refused .malformed, .peerBusy,
        .peerHeldLimit, .peerNoAnswer, .peerAbsent, .peerSilent, .peerLeft, .peerMismatch, .stationIsolated,
        .stationLeaving] : List Status)[bits (w 2) 0 5]? = some r.status ∧
    ([none, some (.refusal .noWindow), some (.refusal .access), some (.refusal .denied), some (.refusal .targetError),
        some (.refusal .targetTimeout), some (.refusal .targetRetry), some (.refusal .replayLost),
        some (.refusal .malformed), some .busyLimit, some .heldLimit, some .noAnswerLimit] :
        List (Option LastCause))[bits (w 2) 5 4]? = some r.lastCause ∧
    bits (w 2) 9 7 = 0 ∧ (w 3).toNat = r.bytesDone ∧ (w 4).toNat = r.segmentsSent ∧ (w 5).toNat = r.retries) ∧
  (∀ n : Notice,
    let w := noticeWord (some n)
    1 ≤ bits (w 0) 0 4 ∧
    ([.joined, .woken, .left, .duplicateStation, .linkFault, .peerUp, .peerQuiet, .peerSilent, .peerLeft,
        .peerMismatch, .contextDropped] : List NoticeKind)[bits (w 0) 0 4 - 1]? = some n.kind ∧
    bits (w 0) 4 5 = n.station.val ∧ bits (w 0) 9 7 = 0 ∧
    (match n.detail with
      | .number l => (w 1).toNat = l.val
      | .dropped i g why written =>
        bits (w 1) 0 3 = i.val ∧ bits (w 1) 3 4 = g.val ∧ bits (w 1) 7 1 = (if why = .replaced then 1 else 0) ∧
          bits (w 1) 8 1 = flag written ∧ bits (w 1) 9 7 = 0)) ∧
  (∀ k l, completionWord none k = 0 ∧ noticeWord none l = 0) ∧
  ∀ p : PeerRecord, p.silenceCount ≤ 3 →
    let w := peerWord p
    bits (w 0) 0 3 =
      (match p.state with
        | .absent => 0
        | .present => 1
        | .quiet _ => 2
        | .silent => 3
        | .mismatched => 4
        | .self => 5) ∧
    bits (w 0) 3 3 =
      (match p.state with
        | .quiet l => l.val
        | _ => 0) ∧
    bits (w 0) 6 2 = p.silenceCount ∧ bits (w 0) 8 8 = 0 ∧
    (w 1).toNat =
      (match p.lastSequence with
        | none => 0
        | some q => 256 + q.toNat)

/-- HINT is asserted while at least one of its three terms holds, and negated while none does. The two enables are written in every
station state, each on its own bit, with nothing else changed; a cold reset clears both, and a soft reset leaves them. -/
def Obligations.HintFollowsItsTerms : Prop :=
  ∀ s : State,
    (s.hint = true ↔
      (s.hostPort.completionEnable = true ∧ 0 < s.completions.notifyCount) ∨
        (s.hostPort.noticeEnable = true ∧ s.notices.records ≠ []) ∨
        (s.hostPort.noticeEnable = true ∧ s.notices.lost = true)) ∧
    (∀ (v : Word) (l : Lanes), s.hostPort.resetAsserted = false →
      exec (.registerWrite 0x06 v l) s = .next
        { s with hostPort := { s.hostPort with
            completionEnable := if l.low then v.getLsbD 0 else s.hostPort.completionEnable
            noticeEnable := if l.low then v.getLsbD 1 else s.hostPort.noticeEnable } }) ∧
    (∀ straps held, ∃ t, exec (.coldReset straps held) s = .next t ∧
      t.hostPort.completionEnable = false ∧ t.hostPort.noticeEnable = false ∧ t.hint = false) ∧
    ∃ t, exec .softReset s = .next t ∧ t.hostPort.completionEnable = s.hostPort.completionEnable ∧
      t.hostPort.noticeEnable = s.hostPort.noticeEnable

/-! ### The requester -/

/-- The head READ or WRITE, in ACTIVE with no drain and no fence wait, takes the lowest FREE slot with the next generation and
dispatch sequence: BEHIND another transaction to its destination, else READY, PARKED or DONE by the destination's record (R6, R7,
R8, R9, R10). -/
def Obligations.DispatchFillsTheLowestFreeSlot : Prop :=
  ∀ (s : State) (d : Descriptor) (rest : List Descriptor) (i : Tag),
    s.controller.station = .active → s.requester.drainCount = 0 → s.requester.fenceWait = false →
    s.requester.queue = d :: rest → d.kind ≠ .fence → (s.slot i).state = .free →
    (∀ j, j < i → (s.slot j).state ≠ .free) →
    ∀ (st : SlotState) (done : Nat),
      ((∃ j, j ≠ i ∧ (s.slot j).descriptor.destination = d.destination ∧
          (s.slot j).state.isFree = false ∧ (s.slot j).state.isDone = false) ∧ st = .behind ∧ done = 0 ∨
        (∀ j, j ≠ i → (s.slot j).descriptor.destination = d.destination →
          (s.slot j).state.isFree = true ∨ (s.slot j).state.isDone = true) ∧
        (match (s.peer d.destination).state with
          | .present => st = .ready ∧ done = 0
          | .quiet l => st = (if d.urgency ≤ l then .parked else .ready) ∧ done = 0
          | .absent => st = .done .peerAbsent s.requester.doneNext ∧ done = 1
          | .silent => st = .done .peerSilent s.requester.doneNext ∧ done = 1
          | .mismatched => st = .done .peerMismatch s.requester.doneNext ∧ done = 1
          | .self => False)) →
      exec .dispatch s = .next
        { s with
          requester :=
            { queue := rest, drainCount := 0, fenceWait := fenceAtHead rest
              dispatchSeq := s.requester.dispatchSeq + 1
              doneNext := s.requester.doneNext + done
              slots := s.requester.slots.set i
                { state := st, generation := (s.slot i).generation + 1, descriptor := d,
                  dispatchSeq := s.requester.dispatchSeq, bytesDone := 0, offered := none, firstFlag := true,
                  busyCount := 0, heldCount := 0, noAnswerCount := 0, segmentsSent := 0, retries := 0,
                  lastCause := none, abortMark := false, deferred := none, sentHere := false } } }

/-- The head stays in the queue while any condition of R6 fails: the station is not ACTIVE, a drain is pending, the fence wait is
set, or no slot is FREE. -/
def Obligations.DispatchIsHeldBack : Prop :=
  ∀ s : State,
    (s.requester.queue = [] ∨ s.controller.station ≠ .active ∨ 0 < s.requester.drainCount ∨
      s.requester.fenceWait = true ∨ ∀ i, (s.slot i).state ≠ .free) →
    exec .dispatch s = .next s

/-- With room in the completion queue, the DONE slot of the oldest done order leaves its record at the tail and becomes FREE with its
generation; without room or a DONE slot nothing changes (R43, R178, R181). The other fields of the FREE slot are the model's, log
entry 1. -/
def Obligations.CompletionWriteTakesTheOldestDoneSlot : Prop :=
  ∀ s : State,
    (∀ (i : Tag) (st : Status) (n : Nat), s.completions.records.length < 16 → (s.slot i).state = .done st n →
      (∀ (j : Tag) st' m, j ≠ i → (s.slot j).state = .done st' m → n < m) →
      ∃ t, exec .slotCompletionWrite s = .next t ∧
        t.completions =
          { s.completions with
            records := s.completions.records ++
              [{ cookie := (s.slot i).descriptor.cookie, tag := some i, generation := (s.slot i).generation,
                 kind := (s.slot i).descriptor.kind, destination := (s.slot i).descriptor.destination, status := st,
                 bytesDone := (s.slot i).bytesDone, segmentsSent := (s.slot i).segmentsSent,
                 retries := (s.slot i).retries, lastCause := (s.slot i).lastCause,
                 notify := (s.slot i).descriptor.notify }]
            notifyCount := if (s.slot i).descriptor.notify then s.completions.notifyCount + 1
              else s.completions.notifyCount } ∧
        (t.slot i).state = .free ∧ (t.slot i).generation = (s.slot i).generation ∧
        (∀ j, j ≠ i → t.slot j = s.slot j) ∧
        t = { s with
          requester := { s.requester with slots := t.requester.slots }, completions := t.completions }) ∧
    (16 ≤ s.completions.records.length ∨ (∀ i, (s.slot i).state.isDone = false) →
      exec .slotCompletionWrite s = .next s)

/-- With room and no slot DONE, the head descriptor leaves with a direct completion: ABORTED during a drain, STATION-ISOLATED in
ISOLATED, OK for a FENCE in ACTIVE with every slot FREE; the queue, the drain count and the fence wait follow (R12, R15, R16, R17,
R178). The head waits while the queue is full, a slot is DONE or no status awaits it; the host reads the record's tag as 0xF and its
last cause as 0. -/
def Obligations.DirectCompletionTakesTheHead : Prop :=
  (∀ (s : State) (d : Descriptor) (rest : List Descriptor) (st : Status),
    s.requester.queue = d :: rest → s.completions.records.length < 16 → (∀ i, (s.slot i).state.isDone = false) →
    (0 < s.requester.drainCount ∧ st = .aborted ∨
      s.requester.drainCount = 0 ∧ s.controller.station = .isolated ∧ st = .stationIsolated ∨
      s.requester.drainCount = 0 ∧ s.controller.station = .active ∧ d.kind = .fence ∧
        (∀ i, (s.slot i).state = .free) ∧ st = .ok) →
    exec .directCompletion s = .next
      { s with
        requester := { s.requester with
          queue := rest, drainCount := s.requester.drainCount - 1, fenceWait := fenceAtHead rest }
        completions :=
          { s.completions with
            records := s.completions.records ++
              [{ cookie := d.cookie, tag := none, generation := 0, kind := d.kind,
                 destination := if d.kind = .fence then 0 else d.destination, status := st, bytesDone := 0,
                 segmentsSent := 0, retries := 0, lastCause := none, notify := d.notify }]
            notifyCount := if d.notify then s.completions.notifyCount + 1 else s.completions.notifyCount } }) ∧
  (∀ s : State,
    (16 ≤ s.completions.records.length ∨ (∃ i, (s.slot i).state.isDone = true) ∨
      (s.requester.drainCount = 0 ∧ s.controller.station ≠ .isolated ∧
        (s.controller.station ≠ .active ∨ (∃ i, (s.slot i).state ≠ .free) ∨
          ∀ d rest, s.requester.queue = d :: rest → d.kind ≠ .fence))) →
    exec .directCompletion s = .next s) ∧
  ∀ r : CompletionRecord, r.tag = none → r.lastCause = none →
    (completionWord (some r) 1).toNat % 16 = 0xF ∧ (completionWord (some r) 2).toNat / 32 = 0

/-- Into an empty transmit register, with the transmitter able to send, goes the pending beacon, at effective urgency 7 and with the
sequence and the digest as they stand (R26, R135, R170). A register that holds a frame is not displaced (R27). R170 counts a
loaded beacon that has not begun as pending still; that the controller's pending beacon becomes absent at the load, the beacon being held
in the register alone, is the model's choice, log entry 10. -/
def Obligations.LoadTakesThePendingBeacon : Prop :=
  ∀ s : State,
    (∀ p : PendingBeacon, s.link.tx = none → s.transmitterOn = true → s.controller.pendingBeacon = some p →
      exec .transmitRegisterLoad s = .next
        { s with
          link := { s.link with
            tx := some (.beacon { state := p.state, wakeLevel := p.wakeLevel, sequence := s.controller.beaconSequence,
                                  digest := s.link.ownDigest.getD 0 })
            begun := false, contending := false, effectiveUrgency := 7, lostCount := 0 }
          controller := { s.controller with pendingBeacon := none } }) ∧
    (∀ f : TxFrame, s.link.tx = some f → exec .transmitRegisterLoad s = .next s) ∧
    (s.transmitterOn = false → exec .transmitRegisterLoad s = .next s)

/-- With no beacon pending, in ACTIVE with no slot AWAITING, the READY slot of the highest urgency, and of equals the earliest
dispatched, is loaded: its segment is built from the slot and, for a WRITE, from staging memory, and the slot is CONTENDING with
its current offer (R23, R24, R26, R135). Outside ACTIVE, while a slot is AWAITING, and with no slot READY, the register stays empty (R26,
R144). -/
def Obligations.LoadBuildsTheMostUrgentSegment : Prop :=
  (∀ (s : State) (i : Tag), s.link.tx = none → s.controller.station = .active → s.controller.pendingBeacon = none →
    (∀ j, (s.slot j).state.isAwaiting = false) → (s.slot i).state = .ready →
    (∀ j, j ≠ i → (s.slot j).state = .ready →
      (s.slot j).descriptor.urgency < (s.slot i).descriptor.urgency ∨
        ((s.slot j).descriptor.urgency = (s.slot i).descriptor.urgency ∧
          (s.slot i).dispatchSeq < (s.slot j).dispatchSeq)) →
    let x := s.slot i
    let offer := min 16 (x.descriptor.length - x.bytesDone)
    ∃ g : Segment,
      exec .transmitRegisterLoad s = .next
        { s with
          link := { s.link with
            tx := some (.segment i g), begun := false, contending := false, effectiveUrgency := x.descriptor.urgency,
            lostCount := 0 }
          requester := { s.requester with
            slots := s.requester.slots.set i { x with state := .contending, offered := some offer } } } ∧
      g.op = (if x.descriptor.kind = .write then .write else .read) ∧ g.firstFlag = x.firstFlag ∧
      g.urgency = x.descriptor.urgency ∧ g.destination = x.descriptor.destination ∧ g.source = s.own ∧ g.tag = i ∧
      g.generation = x.generation ∧ g.offset = BitVec.ofNat 8 x.bytesDone ∧
      g.address = x.descriptor.remoteAddress + BitVec.ofNat 32 x.bytesDone ∧ g.length = BitVec.ofNat 8 offer ∧
      (x.descriptor.kind ≠ .write → g.data = []) ∧
      (x.descriptor.kind = .write → g.data.length = offer ∧
        ∀ k, k < offer → g.data.getD k 0 = Memory.read s.staging (x.descriptor.stagingOffset + x.bytesDone + k))) ∧
  ∀ s : State, s.link.tx = none → s.controller.pendingBeacon = none →
    (s.controller.station ≠ .active ∨ (∃ j, (s.slot j).state.isAwaiting = true) ∨ ∀ j, (s.slot j).state ≠ .ready) →
    exec .transmitRegisterLoad s = .next s

/-- The answer timer's expiry raises the no-answer count and clears the first flag, and closes the exchange with the course of R46; with
neither mark nor deferred ending the slot backs off for BB, or past NL ends with PEER-NO-ANSWER (R46, R48, R49). In LEAVING the close
may bring the end condition, which is then looked at (R172). That the expiry is taken in every state of the medium, but while a frame begun
in the reply slot is on the line, is the model's choice, log entry 19. -/
def Obligations.AnswerTimerExpiryBacksOffOrEnds : Prop :=
  ∀ (s : State) (i : Tag) (n : Nat), (s.slot i).state = .awaiting n →
    (∀ j, j ≠ i → (s.slot j).state.isAwaiting = false) →
    (s.link.medium ≠ .receiving ∨ s.link.layout ≠ .replySlot) →
    let x := s.slot i
    let put (y : Slot) : State := { s with requester := { s.requester with slots := s.requester.slots.set i y } }
    exec .answerTimerExpiry s = .next
      (State.checkLeaving
        (State.closeExchange
          (put { x with
            noAnswerCount := x.noAnswerCount + 1, firstFlag := false
            lastCause := if s.nl < x.noAnswerCount + 1 then some .noAnswerLimit else x.lastCause })
          i (if s.nl < x.noAnswerCount + 1 then .finish .peerNoAnswer else .wait s.bb))) ∧
    (x.bytesDone ≠ x.descriptor.length → x.abortMark = false → x.deferred = none →
      (x.noAnswerCount + 1 ≤ s.nl →
        exec .answerTimerExpiry s = .next
          (State.checkLeaving
            (put { x with state := .backoff s.bb, noAnswerCount := x.noAnswerCount + 1, firstFlag := false }))) ∧
      (s.nl < x.noAnswerCount + 1 →
        (∀ j, (s.slot j).state = .behind → (s.slot j).descriptor.destination ≠ x.descriptor.destination) →
        exec .answerTimerExpiry s = .next
          (State.checkLeaving
            { s with requester := { s.requester with
                doneNext := s.requester.doneNext + 1
                slots := s.requester.slots.set i
                  { x with state := .done .peerNoAnswer s.requester.doneNext, noAnswerCount := x.noAnswerCount + 1,
                           firstFlag := false, lastCause := some .noAnswerLimit } } })))

/-- At its back-off's expiry a slot is READY when its destination is PRESENT, or QUIET below its urgency, and PARKED when it is QUIET at or
above it (R53). R53 has the record PRESENT or QUIET then; that one ABSENT, SILENT or MISMATCHED all the same, which no run from reset
makes, ends the slot by the peer-state test of dispatch and release is the model's choice, log entry 6. -/
def Obligations.BackoffExpiryPlacesTheSlot : Prop :=
  ∀ (s : State) (i : Tag) (n : Nat), (s.slot i).state = .backoff n →
    let record := (s.peer (s.slot i).descriptor.destination).state
    (record = .present →
      exec (.backoffExpiry i) s = .next
        { s with requester := { s.requester with
            slots := s.requester.slots.set i { s.slot i with state := .ready } } }) ∧
    (∀ l, record = .quiet l →
      exec (.backoffExpiry i) s = .next
        { s with requester := { s.requester with
            slots := s.requester.slots.set i
              { s.slot i with state := if (s.slot i).descriptor.urgency ≤ l then .parked else .ready } } }) ∧
    ∀ st, (record = .absent ∧ st = .peerAbsent ∨ record = .silent ∧ st = .peerSilent ∨
        record = .mismatched ∧ st = .peerMismatch) →
      exec (.backoffExpiry i) s = .next (s.endSlot i st)

/-- The close of an exchange weighs its three endings in the order of R36: OK with every byte done, then ABORTED for the abort
mark, then the deferred ending, and only then the course of the outcome. Each ending is the entry to DONE that releases the slot BEHIND it
(R40, R41, R42; EntryToDoneReleasesTheNext says what it releases). After an abandonment the slot is placed by its destination's
record, READY at a PRESENT peer or at a QUIET one whose wake level lies below its urgency, PARKED at a QUIET one whose level does not
(R31); after TAKEN the same with the first flag set (R39); a wait is BACKOFF for its duration, and a course that ends the slot gives it
the status (R50, R51, R52). That a placement at an ABSENT, SILENT or MISMATCHED record, which no run from reset makes there, ends the slot
is the model's choice, log entry 6. -/
def Obligations.ExchangeCloseWeighsInOrder : Prop :=
  ∀ (s : State) (i : Tag),
    let x := s.slot i
    (∀ c : Course,
      let t := s.closeExchange i c
      (x.bytesDone = x.descriptor.length →
        t = s.endSlot i .ok ∧ t.slot i = { x with state := .done .ok s.requester.doneNext }) ∧
      (x.bytesDone ≠ x.descriptor.length → x.abortMark = true →
        t = s.endSlot i .aborted ∧ t.slot i = { x with state := .done .aborted s.requester.doneNext }) ∧
      (∀ d : Deferred, x.bytesDone ≠ x.descriptor.length → x.abortMark = false → x.deferred = some d →
        let st : Status :=
          match d with
          | .stationLeaving => .stationLeaving
          | .peerSilent => .peerSilent
          | .peerLeft => .peerLeft
          | .peerMismatch => .peerMismatch
        t = s.endSlot i st ∧ t.slot i = { x with state := .done st s.requester.doneNext }) ∧
      (x.bytesDone ≠ x.descriptor.length → x.abortMark = false → x.deferred = none → t = s.takeCourse i c)) ∧
    let record := (s.peer x.descriptor.destination).state
    let put (y : Slot) : State := { s with requester := { s.requester with slots := s.requester.slots.set i y } }
    (∀ (c : Course) (flag : Bool), (c = .place ∧ flag = x.firstFlag ∨ c = .advance ∧ flag = true) →
      (record = .present → s.takeCourse i c = put { x with state := .ready, firstFlag := flag }) ∧
      (∀ l, record = .quiet l →
        s.takeCourse i c =
          put { x with state := if x.descriptor.urgency ≤ l then .parked else .ready, firstFlag := flag }) ∧
      ∀ st, (record = .absent ∧ st = .peerAbsent ∨ record = .silent ∧ st = .peerSilent ∨
          record = .mismatched ∧ st = .peerMismatch) →
        s.takeCourse i c = (put { x with firstFlag := flag }).endSlot i st ∧
          (s.takeCourse i c).slot i =
            { x with state := .done st s.requester.doneNext, firstFlag := flag }) ∧
    (∀ n, s.takeCourse i (.wait n) = put { x with state := .backoff n }) ∧
    ∀ st, s.takeCourse i (.finish st) = s.endSlot i st ∧
      (s.takeCourse i (.finish st)).slot i = { x with state := .done st s.requester.doneNext }

/-- When a slot becomes DONE and no active slot holds its destination, the BEHIND slot of the destination that was dispatched first
goes through the peer-state test: READY, PARKED, or DONE in the next place of the done order, which releases the next one in its turn.
With none BEHIND, or another slot active, only the ended slot changes (R10, R41, R42, R67). -/
def Obligations.EntryToDoneReleasesTheNext : Prop :=
  ∀ (s : State) (i : Tag) (st : Status),
    let d := (s.slot i).descriptor.destination
    let ended : State := { s with requester := { s.requester with
      doneNext := s.requester.doneNext + 1
      slots := s.requester.slots.set i { s.slot i with state := .done st s.requester.doneNext } } }
    ((∃ k, k ≠ i ∧ (s.slot k).state.isActive = true ∧ (s.slot k).descriptor.destination = d) ∨
        (∀ k, k ≠ i → (s.slot k).state = .behind → (s.slot k).descriptor.destination ≠ d) →
      s.endSlot i st = ended) ∧
    ∀ j, j ≠ i → (s.slot j).state = .behind → (s.slot j).descriptor.destination = d →
      (∀ k, k ≠ i → k ≠ j → (s.slot k).descriptor.destination = d →
        (s.slot k).state.isActive = false ∧
          ((s.slot k).state = .behind → (s.slot j).dispatchSeq < (s.slot k).dispatchSeq)) →
      let put (y : SlotState) : State := { ended with requester := { ended.requester with
        slots := ended.requester.slots.set j { s.slot j with state := y } } }
      ((s.peer d).state = .present → s.endSlot i st = put .ready) ∧
      (∀ l, (s.peer d).state = .quiet l →
        s.endSlot i st = put (if (s.slot j).descriptor.urgency ≤ l then .parked else .ready)) ∧
      ∀ st' : Status,
        ((s.peer d).state = .absent ∧ st' = .peerAbsent ∨ (s.peer d).state = .silent ∧ st' = .peerSilent ∨
          (s.peer d).state = .mismatched ∧ st' = .peerMismatch) →
        s.endSlot i st = ended.endSlot j st' ∧
          (s.endSlot i st).slot j = { s.slot j with state := .done st' (s.requester.doneNext + 1) }

/-- A good ANSWER makes its source PRESENT if it was ABSENT or SILENT (R149). In the reply slot it is applied when it matches the AWAITING
slot by destination, source, tag, generation, offset, count and data, and ignored otherwise; in the late-reply gap it reaches no slot
(R33, R34, R131, R139). HELD raises its count and clears the first flag, BUSY raises its count and leaves the flag, a limit passed and a
refusal are the last cause, a code not assigned counting as MALFORMED, and a slot with an abort mark or a deferred ending keeps all of
that and is DONE with that ending (R36, R48, R49, R64). An unmarked slot waits HI after HELD and BB × 2^(min(k,6) − 1) after BUSY, each
until its limit is passed, and REFUSED ends it with its cause (R50, R51, R52). -/
def Obligations.HeldBusyAndRefusedTakeTheirCourses : Prop :=
  (∀ (s : State) (h : Heard) (a : Answer), s.nothingDue → s.link.medium = .receiving → s.link.followTail = false →
    s.link.layout ≠ .contended → readFrame s.link.layout h = .good (.answer a) → a.source ≠ s.own →
    (s.peer a.source).state ≠ .self →
    let returns : Bool := (s.peer a.source).state = .absent ∨ (s.peer a.source).state = .silent
    let heard : State :=
      { s with
        link := { s.link with medium := .gap, gap := .ordinary }
        peers := s.peers.set a.source
          { s.peer a.source with
            silenceCount := 0, state := if returns then .present else (s.peer a.source).state }
        notices :=
          if returns then (s.post { kind := .peerUp, station := a.source, detail := .number 0 }).notices else s.notices }
    let closed : State :=
      { heard with
        link := { heard.link with answer := none, answerBegun := false }
        responder := { s.responder with
          contexts := Vector.ofFn fun j => { s.context j with answerOwed := false }, holdTimer := none } }
    let matching (i : Tag) : Prop :=
      a.destination = s.own ∧ a.source = (s.slot i).descriptor.destination ∧ a.tag = i ∧
        a.generation = (s.slot i).generation ∧ a.offset.toNat = (s.slot i).bytesDone ∧
        (a.code = .taken →
          1 ≤ a.count.toNat ∧ a.count.toNat ≤ (s.slot i).offered.getD 0 ∧
            a.data.length = if (s.slot i).descriptor.kind = .read then a.count.toNat else 0) ∧
        (a.code ≠ .taken → a.count = 0 ∧ a.data = [])
    (s.link.layout = .lateReply → exec (.frameReceived h) s = .next heard.checkLeaving) ∧
    (s.link.layout = .replySlot → (∀ i, (s.slot i).state.isAwaiting = true → ¬matching i) →
      exec (.frameReceived h) s = .next closed.checkLeaving) ∧
    ∀ i, s.link.layout = .replySlot → (s.slot i).state.isAwaiting = true →
      (∀ j, j ≠ i → (s.slot j).state.isAwaiting = false) → matching i →
      exec (.frameReceived h) s = .next (closed.applyAnswer i a).checkLeaving) ∧
  ∀ (s : State) (i : Tag) (a : Answer), (s.slot i).bytesDone ≠ (s.slot i).descriptor.length →
    let x := s.slot i
    let forced : Option Status :=
      if x.abortMark then some .aborted
      else x.deferred.map fun d =>
        match d with
        | .stationLeaving => .stationLeaving
        | .peerSilent => .peerSilent
        | .peerLeft => .peerLeft
        | .peerMismatch => .peerMismatch
    let closes (y : Slot) (c : Course) : Prop :=
      s.applyAnswer i a =
          State.closeExchange { s with requester := { s.requester with slots := s.requester.slots.set i y } } i c ∧
        ∀ st, forced = some st → (s.applyAnswer i a).slot i = { y with state := .done st s.requester.doneNext }
    (a.code = .held →
      closes
        { x with heldCount := x.heldCount + 1, firstFlag := false,
                 lastCause := if s.hl < x.heldCount + 1 then some .heldLimit else x.lastCause }
        (if s.hl < x.heldCount + 1 then .finish .peerHeldLimit else .wait s.hi)) ∧
    (a.code = .busy →
      closes
        { x with busyCount := x.busyCount + 1,
                 lastCause := if s.bl < x.busyCount + 1 then some .busyLimit else x.lastCause }
        (if s.bl < x.busyCount + 1 then .finish .peerBusy
         else .wait (s.bb * 2 ^ (min (x.busyCount + 1) 6 - 1)))) ∧
    (∀ c : Cause, a.code = .refused →
      (a.cause.toNat = c.code ∨ c = .malformed ∧ (a.cause.toNat = 0 ∨ 9 ≤ a.cause.toNat)) →
      closes { x with lastCause := some (.refusal c) } (.finish (.refused c))) ∧
    (forced = none →
      (a.code = .held → x.heldCount + 1 ≤ s.hl →
        s.applyAnswer i a = s.setSlot i
          { x with state := .backoff s.hi, heldCount := x.heldCount + 1, firstFlag := false }) ∧
      (a.code = .held → s.hl < x.heldCount + 1 →
        (s.applyAnswer i a).slot i =
          { x with state := .done .peerHeldLimit s.requester.doneNext, heldCount := x.heldCount + 1, firstFlag := false,
                   lastCause := some .heldLimit }) ∧
      (a.code = .busy → x.busyCount + 1 ≤ s.bl →
        s.applyAnswer i a = s.setSlot i
          { x with state := .backoff (s.bb * 2 ^ (min (x.busyCount + 1) 6 - 1)), busyCount := x.busyCount + 1 }) ∧
      (a.code = .busy → s.bl < x.busyCount + 1 →
        (s.applyAnswer i a).slot i =
          { x with state := .done .peerBusy s.requester.doneNext, busyCount := x.busyCount + 1,
                   lastCause := some .busyLimit }) ∧
      ∀ c : Cause, a.code = .refused →
        (a.cause.toNat = c.code ∨ c = .malformed ∧ (a.cause.toNat = 0 ∨ 9 ≤ a.cause.toNat)) →
        (s.applyAnswer i a).slot i =
          { x with state := .done (.refused c) s.requester.doneNext, lastCause := some (.refusal c) })

/-- A matched TAKEN answer received in its reply slot. To a READ: its bytes go into staging memory at the staging offset plus the bytes
done; to a WRITE: it carries none, and staging memory is unchanged. The bytes done rise by the count and the three counts return to 0,
whatever the close then decides (R35, R37, R38, R64): OK when the transaction is complete, else the ending of an abort mark or of a deferred
ending, else the slot goes on at its new offset with the first flag set, READY or PARKED by its destination's record (R36, R39, R40). An
ABSENT or SILENT source is PRESENT first (R149), the reservation ends (R131), and in LEAVING the end condition is then looked at (R172). -/
def Obligations.TakenReadDataReachesStaging : Prop :=
  ∀ (s : State) (h : Heard) (a : Answer) (i : Tag) (n offered : Nat),
    s.nothingDue → s.stagingCanonical →
    s.link.medium = .receiving → s.link.layout = .replySlot → s.link.followTail = false →
    readFrame .replySlot h = .good (.answer a) →
    (s.slot i).state = .awaiting n → (∀ j, j ≠ i → (s.slot j).state.isAwaiting = false) →
    a.code = .taken → a.destination = s.own → a.source ≠ s.own → a.source = (s.slot i).descriptor.destination →
    a.tag = i → a.generation = (s.slot i).generation → a.offset.toNat = (s.slot i).bytesDone →
    (s.slot i).offered = some offered → 1 ≤ a.count.toNat → a.count.toNat ≤ offered →
    ((s.slot i).descriptor.kind = .read ∧ a.data.length = a.count.toNat ∨
      (s.slot i).descriptor.kind = .write ∧ a.data = []) →
    (s.slot i).descriptor.stagingOffset + (s.slot i).bytesDone + a.count.toNat ≤ 8192 →
    (s.peer a.source).state ≠ .self →
    let x := s.slot i
    let start := x.descriptor.stagingOffset + x.bytesDone
    let done := x.bytesDone + a.count.toNat
    let returns : Bool := (s.peer a.source).state = .absent ∨ (s.peer a.source).state = .silent
    let record : PeerState := if returns then .present else (s.peer a.source).state
    let forced : Option Status :=
      if x.abortMark then some .aborted
      else x.deferred.map fun d =>
        match d with
        | .stationLeaving => .stationLeaving
        | .peerSilent => .peerSilent
        | .peerLeft => .peerLeft
        | .peerMismatch => .peerMismatch
    let taken : Slot := { x with bytesDone := done, busyCount := 0, heldCount := 0, noAnswerCount := 0, sentHere := false }
    ∃ m : Memory,
      (∀ y, Memory.read m y =
        if x.descriptor.kind = .read ∧ start ≤ y ∧ y < start + a.count.toNat then a.data.getD (y - start) 0
        else Memory.read s.staging y) ∧
      (x.descriptor.kind = .write → m = s.staging) ∧
      let applied : State :=
        { s with
          requester := { s.requester with slots := s.requester.slots.set i taken }
          staging := m
          responder := { s.responder with
            contexts := Vector.ofFn fun j => { s.context j with answerOwed := false }, holdTimer := none }
          link := { s.link with medium := .gap, gap := .ordinary, answer := none, answerBegun := false }
          peers := s.peers.set a.source { s.peer a.source with silenceCount := 0, state := record }
          notices :=
            if returns then (s.post { kind := .peerUp, station := a.source, detail := .number 0 }).notices
            else s.notices }
      let t := applied.closeExchange i .advance
      exec (.frameReceived h) s = .next t.checkLeaving ∧
        t = { applied with
          requester := { applied.requester with slots := t.requester.slots, doneNext := t.requester.doneNext } } ∧
        (done = x.descriptor.length → t.slot i = { taken with state := .done .ok s.requester.doneNext }) ∧
        (done ≠ x.descriptor.length → ∀ st, forced = some st →
          t.slot i = { taken with state := .done st s.requester.doneNext }) ∧
        (done ≠ x.descriptor.length → forced = none → record = .present →
          t.slot i = { taken with state := .ready, firstFlag := true }) ∧
        (∀ l, done ≠ x.descriptor.length → forced = none → record = .quiet l →
          t.slot i = { taken with
            state := if x.descriptor.urgency ≤ l then .parked else .ready, firstFlag := true }) ∧
        (∀ j, j ≠ i → (s.slot j).state ≠ .behind ∨ (s.slot j).descriptor.destination ≠ a.source →
          t.slot j = s.slot j) ∧
        t.requester.doneNext =
          s.requester.doneNext +
            (List.finRange 8).countP (fun j => (t.slot j).state.isDone && !(s.slot j).state.isDone)

/-! ### The link unit -/

/-- The contention course with nothing else due: a start in IDLE with a frame loaded drives into CONTENTION; a lost contention stops
driving and counts; a count of 4 ages the frame; the code driven to its end begins the transmission (R28, R133, R134, R135). From the
start on, this station puts the loaded frame on the line, under the contention code of its effective urgency and number, and nothing
after losing (R127, R133, R134). That `nothingDue` is asked of the state is the model's choice, log entry 3, and that an event out of
place (an ageing below four, a code driven outside a contention this station drives in) changes nothing is log entry 8. -/
def Obligations.ContentionCourse : Prop :=
  ∀ s : State,
    (s.nothingDue → s.link.medium = .idle → s.transmitterOn = true → s.link.tx ≠ none →
      exec .frameStart s = .next
        { s with link := { s.link with medium := .contention, layout := .contended, followTail := false, contending := true } }) ∧
    (s.nothingDue → s.link.medium ≠ .idle ∨ s.link.tx = none → exec .frameStart s = .next s) ∧
    (s.nothingDue → s.link.medium = .contention → s.link.contending = true →
      exec .contentionLost s = .next
        { s with link := { s.link with contending := false, lostCount := s.link.lostCount + 1 } }) ∧
    (4 ≤ s.link.lostCount →
      exec .urgencyAgeing s = .next
        { s with link := { s.link with
            lostCount := 0,
            effectiveUrgency := if s.link.effectiveUrgency = 7 then 7 else s.link.effectiveUrgency + 1 } }) ∧
    (s.link.lostCount < 4 → exec .urgencyAgeing s = .next s) ∧
    (s.link.medium = .contention → s.link.contending = true →
      exec .transmissionBegins s = .next
        { s with link := { s.link with medium := .transmitting, contending := false, begun := true } }) ∧
    (s.link.medium ≠ .contention ∨ s.link.contending = false → exec .transmissionBegins s = .next s) ∧
    (∀ (c : Instr) (t : State),
      (c = .frameStart ∧ s.nothingDue ∧ s.link.medium = .idle ∧ s.transmitterOn = true ∨
        c = .transmissionBegins ∧ s.link.medium = .contention ∧ s.link.contending = true) →
      s.link.answerBegun = false → exec c s = .next t →
      let code : Byte := BitVec.ofNat 8 ((7 - s.link.effectiveUrgency.val) * 32 + s.own.val)
      (∀ i g, s.link.tx = some (.segment i g) → t.drivenFrame = some (segmentFrame code g)) ∧
        ∀ b, s.link.tx = some (.beacon b) → t.drivenFrame = some (beaconFrame code s.own b)) ∧
    ∀ t : State, s.nothingDue → s.link.medium = .contention → s.link.contending = true → s.link.begun = false →
      s.link.answerBegun = false → exec .contentionLost s = .next t → t.drivenFrame = none

/-- The contention code orders stations by effective urgency, highest first, then by station number, lowest first, so no two
stations share a code (R134, R135). On the line, dominant where any station drives dominant, the lower of two codes reads as its own: at
the first level where their characters differ the lower drives dominant and the higher, which drives recessive, reads dominant (R127,
R134). -/
def Obligations.ContentionCodesOrderTheStations : Prop :=
  (∀ (e f : Urgency) (m n : StationNo),
    (contentionCode e m).toNat < (contentionCode f n).toNat ↔ f < e ∨ (f = e ∧ m < n)) ∧
  (∀ ls : List Level, wiredAnd ls = if .dominant ∈ ls then .dominant else .recessive) ∧
  ∀ a b : Byte, a.toNat < b.toNat →
    (character a).zipWith (fun x y => wiredAnd [x, y]) (character b) ≠ character b ∧
    ∃ k, k < 10 ∧ (character a).take k = (character b).take k ∧
      (character a)[k]? = some .dominant ∧ (character b)[k]? = some .recessive

/-- The frame sent in full: a SEGMENT makes its slot AWAITING for AW, counts it, and a retry when the offset was sent before, and reserves
the medium; a BEACON raises the sequence, the LEAVING beacon of a station in LEAVING apart (LeavingBeaconEndsInOffline says that one);
an ANSWER leaves its register; each clears the fault count, and the station drives nothing more (R30, R45, R131, R136, R142, R170). In
LEAVING the end condition is then looked at (R172). -/
def Obligations.FrameSentInFullByItsKind : Prop :=
  ∀ s : State, s.link.medium = .transmitting →
    (∀ (i : Tag) (g : Segment), s.link.answerBegun = false → s.link.tx = some (.segment i g) →
      exec .frameSentInFull s = .next
        { s with
          link := { s.link with
            tx := none, begun := false, contending := false, transmitFaults := 0, medium := .reserved }
          requester := { s.requester with
            slots := s.requester.slots.set i
              { s.slot i with
                state := .awaiting s.aw
                segmentsSent := min ((s.slot i).segmentsSent + 1) 65535
                retries := if (s.slot i).sentHere then min ((s.slot i).retries + 1) 65535 else (s.slot i).retries
                sentHere := true } } }) ∧
    (∀ b : OwnBeacon, s.link.answerBegun = false → s.link.tx = some (.beacon b) →
      b.state ≠ .leaving ∨ s.controller.station ≠ .leaving →
      exec .frameSentInFull s = .next
        (State.checkLeaving
          { s with
            link := { s.link with
              tx := none, begun := false, contending := false, transmitFaults := 0, medium := .gap, gap := .ordinary }
            controller := { s.controller with beaconSequence := s.controller.beaconSequence + 1 } })) ∧
    (s.link.answerBegun = true →
      exec .frameSentInFull s = .next
        (State.checkLeaving
          { s with link := { s.link with
              answer := none, answerBegun := false, transmitFaults := 0, medium := .gap, gap := .ordinary } })) ∧
    ∀ t, s.link.tx ≠ none ∧ s.link.answerBegun = false ∨
        s.link.answerBegun = true ∧ s.link.begun = false ∧ s.link.contending = false →
      exec .frameSentInFull s = .next t → t.drivenFrame = none

/-- The LEAVING beacon sent in full ends the leaving sequence in one step: off the line, contexts and peers cleared, timers stopped,
unlocked, OFFLINE, LEFT posted (R94, R157, R164, R170, R172). -/
def Obligations.LeavingBeaconEndsInOffline : Prop :=
  ∀ (s : State) (b : OwnBeacon), s.link.medium = .transmitting → s.link.answerBegun = false →
    s.link.tx = some (.beacon b) → b.state = .leaving → s.controller.station = .leaving →
    ∃ t, exec .frameSentInFull s = .next t ∧
      (∀ j, (s.context j).state ≠ .cycling → (t.context j).state = .free ∧ (t.context j).answerOwed = false) ∧
      t = { s with
        responder := { s.responder with contexts := t.responder.contexts }
        link := { s.link with
          medium := .gap, gap := .first, layout := .contended, followTail := false, contending := false, tx := none,
          begun := false, answer := none, answerBegun := false, transmitFaults := 0, ownDigest := none }
        peers := Vector.ofFn fun d =>
          { state := if d = s.own then .self else .absent, silenceCount := 0, lastSequence := none }
        controller := { s.controller with
          station := .offline, locked := false, listenTimer := none, beaconTimer := none, pendingBeacon := none,
          beaconSequence := s.controller.beaconSequence + 1 }
        notices := (s.post { kind := .left, station := s.own, detail := .number 0 }).notices }

/-- A frame abandoned on readback: the fault is counted, the line is followed and the register emptied; a SEGMENT closes its exchange,
going READY at the same offset to a PRESENT peer, and READY or PARKED to a QUIET one, when nothing is marked; a BEACON is pending again unless one was queued since, or the
station has entered LEAVING since and it is no LEAVING beacon; an ANSWER is not sent again. What is then heard to the end of a frame is
not counted, and the medium is RESERVED after a frame of the contended layout and in a GAP after an ANSWER (R31, R36, R132, R136, R141,
R142). In LEAVING the end condition is looked at (R172). -/
def Obligations.FrameAbandonedByItsKind : Prop :=
  ∀ s : State,
    (∀ (i : Tag) (g : Segment), s.link.medium = .transmitting → s.link.answerBegun = false →
      s.link.tx = some (.segment i g) →
      let followed : State :=
        { s with link := { s.link with
            tx := none, begun := false, contending := false, medium := .receiving, layout := .contended,
            followTail := true, transmitFaults := min (s.link.transmitFaults + 1) 4 } }
      exec .frameAbandoned s = .next (followed.closeExchange i .place).checkLeaving ∧
      (∀ st : SlotState, (s.slot i).bytesDone ≠ (s.slot i).descriptor.length → (s.slot i).abortMark = false → (s.slot i).deferred = none →
        (match (s.peer (s.slot i).descriptor.destination).state with
          | .present => st = .ready
          | .quiet l => st = if (s.slot i).descriptor.urgency ≤ l then .parked else .ready
          | _ => False) →
        exec .frameAbandoned s = .next
          (State.checkLeaving
            { followed with
              requester := { s.requester with slots := s.requester.slots.set i { s.slot i with state := st } } }))) ∧
    (∀ b : OwnBeacon, s.link.medium = .transmitting → s.link.answerBegun = false → s.link.tx = some (.beacon b) →
      exec .frameAbandoned s = .next
        (State.checkLeaving
          { s with
            link := { s.link with
              tx := none, begun := false, contending := false, medium := .receiving, layout := .contended,
              followTail := true, transmitFaults := min (s.link.transmitFaults + 1) 4 }
            controller := { s.controller with
              pendingBeacon :=
                match s.controller.pendingBeacon with
                | some p => some p
                | none =>
                  if s.controller.station = .leaving ∧ b.state ≠ .leaving then none
                  else some { state := b.state, wakeLevel := b.wakeLevel } } })) ∧
    (s.link.medium = .transmitting → s.link.answerBegun = true →
      exec .frameAbandoned s = .next
        (State.checkLeaving
          { s with link := { s.link with
              answer := none, answerBegun := false, medium := .receiving, layout := .replySlot, followTail := true,
              transmitFaults := min (s.link.transmitFaults + 1) 4 } })) ∧
    ∀ h : Heard, s.nothingDue → s.link.medium = .receiving → s.link.followTail = true →
      exec (.frameReceived h) s = .next
        (match s.link.layout with
          | .contended => { s with link := { s.link with followTail := false, medium := .reserved } }
          | .lateReply => { s with link := { s.link with followTail := false, medium := .gap, gap := .ordinary } }
          | .replySlot =>
            { s with
              link := { s.link with
                followTail := false, medium := .gap, gap := .ordinary, answer := none, answerBegun := false }
              responder := { s.responder with
                contexts := Vector.ofFn fun j => { s.context j with answerOwed := false }, holdTimer := none } })

/-- Entry to ISOLATED, by the fourth fault in a row or by a good frame whose source is the own number: every transaction ends with
STATION-ISOLATED, in consecutive places of the done order by dispatch sequence, the line units go off, contexts and peers are cleared, a
CYCLING context not yet an orphan becoming one whose end posts nothing, the timers stop and the report's notice is posted; the
configuration stays locked (R62, R67, R92, R94, R142, R143, R144, R157, R173). That an orphan made by a replacement stays one, and so
posts its notice after the isolation, is the model's choice, log entry 15, and that a frame is taken in CONTENTION too, while this station
does not drive, is log entry 9. In OFFLINE and
ISOLATED, where the count may still be 4, a report is not acted on (R142, R173). Below four faults the report is not made, log entry 8. A good frame of the wrong kind for
its place counts here, log entry 7, and of two slots with an equal dispatch sequence, which no run makes, the lower goes first, log
entry 13; what a freed entry's other fields hold is log entry 30. -/
def Obligations.ReportsIsolateTheStation : Prop :=
  ∀ s : State,
    (s.link.transmitFaults < 4 → exec .linkFault s = .next s) ∧
    (s.controller.station = .offline ∨ s.controller.station = .isolated → exec .linkFault s = .next s) ∧
    ∀ (c : Instr) (report : NoticeKind), s.receiverOn = true →
      (c = .linkFault ∧ 4 ≤ s.link.transmitFaults ∧ report = .linkFault ∨
        (∃ h : Heard, c = .frameReceived h ∧ s.nothingDue ∧
          (s.link.medium = .receiving ∨ s.link.medium = .contention ∧ s.link.contending = false) ∧
          s.link.followTail = false ∧
          ((∃ f : Frame, readFrame s.link.layout h = .good f ∧ f.source = s.own) ∨
            readFrame s.link.layout h = .misplaced s.own) ∧
          report = .duplicateStation)) →
      let ended : Tag → Bool := fun i => !(s.slot i).state.isFree && !(s.slot i).state.isDone
      let before : Tag → Tag → Bool := fun j i =>
        (s.slot j).dispatchSeq < (s.slot i).dispatchSeq || ((s.slot j).dispatchSeq == (s.slot i).dispatchSeq && j < i)
      exec c s = .next
        { s with
          requester := { s.requester with
            doneNext := s.requester.doneNext + (List.finRange 8).countP ended
            slots := Vector.ofFn fun i =>
              if ended i then
                { s.slot i with
                  state := .done .stationIsolated
                    (s.requester.doneNext + (List.finRange 8).countP fun j => ended j && before j i) }
              else s.slot i }
          responder := { s.responder with
            contexts := Vector.ofFn fun j =>
              if (s.context j).state = .cycling then
                { s.context j with
                  orphan := if (s.context j).orphan = .clear then .isolated else (s.context j).orphan, answerOwed := false }
              else { s.context j with state := .free, orphan := .clear, answerOwed := false }
            holdTimer := none }
          link := { s.link with
            medium := .gap, gap := .first, layout := .contended, followTail := false, contending := false, tx := none,
            begun := false, answer := none, answerBegun := false }
          peers := Vector.ofFn fun d =>
            { state := if d = s.own then .self else .absent, silenceCount := 0, lastSequence := none }
          controller := { s.controller with
            station := .isolated, listenTimer := none, beaconTimer := none, pendingBeacon := none }
          notices := (s.post { kind := report, station := s.own, detail := .number 0 }).notices }

/-- The reply slot and the gap: a placed ANSWER goes out in RESERVED, and its bytes are what this station then drives; AW without a frame
ends the reservation in the late-reply gap with nothing placed or owed; the gap ends in IDLE (R70, R127, R129, R130, R131, R136). That
the three events change nothing elsewhere is the model's choice, log entry 8, as is asking `nothingDue`, log entry 3. -/
def Obligations.ReplySlotAndGap : Prop :=
  ∀ s : State,
    (∀ a : Answer, s.nothingDue → s.link.medium = .reserved → s.link.answer = some a → s.transmitterOn = true →
      exec .answerTransmissionStart s = .next
          { s with link := { s.link with medium := .transmitting, answerBegun := true } } ∧
        State.drivenFrame { s with link := { s.link with medium := .transmitting, answerBegun := true } } =
          some (answerFrame a)) ∧
    (s.nothingDue → s.link.medium ≠ .reserved ∨ s.link.answer = none → exec .answerTransmissionStart s = .next s) ∧
    (s.link.medium = .reserved →
      exec .reservationTimeout s = .next
        { s with
          link := { s.link with medium := .gap, gap := .lateReply, answer := none, answerBegun := false }
          responder := { s.responder with
            contexts := Vector.ofFn fun j => { s.context j with answerOwed := false }, holdTimer := none } }) ∧
    (s.link.medium ≠ .reserved → exec .reservationTimeout s = .next s) ∧
    (s.receiverOn = true → s.link.medium = .gap →
      exec .idleGapElapsed s = .next { s with link := { s.link with medium := .idle, gap := .ordinary } }) ∧
    (s.receiverOn = false ∨ s.link.medium ≠ .gap → exec .idleGapElapsed s = .next s)

/-- What the first dominant bit of another station makes of the medium: a contention this station joins when it has a frame to send;
a frame in the reply slot, or in the late-reply gap, read in the answer layout; nothing in the first gap or within a frame
(R129, R130, R131, R133). -/
def Obligations.DominantBitByTheMediumState : Prop :=
  ∀ s : State, s.nothingDue →
    exec .dominantBitFromAnotherStation s = .next
      (if s.receiverOn = true then
        match s.link.medium, s.link.gap with
        | .idle, _ =>
          { s with link := { s.link with
              medium := .contention, layout := .contended, followTail := false,
              contending := s.transmitterOn && s.link.tx.isSome } }
        | .gap, .ordinary =>
          { s with link := { s.link with
              medium := .contention, layout := .contended, followTail := false, contending := false } }
        | .gap, .lateReply =>
          { s with link := { s.link with medium := .receiving, layout := .lateReply, followTail := false } }
        | .reserved, _ =>
          { s with link := { s.link with medium := .receiving, layout := .replySlot, followTail := false } }
        | _, _ => s
      else s)

/-- A frame fails exactly when it has a framing error, a wrong sync byte, kind 0, a number of characters that does not fit its kind,
or a CRC that differs. A failing frame is counted and goes no further: nothing else changes but the medium, and in a reply slot the
reservation ends; in LEAVING the end condition is looked at (R131, R136, R137, R138, R172). A good frame of the wrong kind for its place,
an ANSWER in the contended layout or another kind in the answer layout, from another station is neither counted nor delivered: it never
reserves, and in a reply slot it ends the reservation (R130, R131, R137). Where such a frame has its source is log entry 7. That a frame is taken at its end in CONTENTION
too, while this station does not drive, is log entry 9. -/
def Obligations.BadFramesAreCountedOnly : Prop :=
  (∀ (l : Layout) (h : Heard),
    readFrame l h = .failed ↔
      let kind := (byteAt h.bytes (if l = .contended then 2 else 1)).toNat / 64
      let n := h.bytes.length
      h.framingError = true ∨ byteAt h.bytes 0 ≠ 0x96 ∨ kind = 0 ∨
        ¬(kind = 1 ∧ 14 ≤ n ∧ n ≤ 30 ∨ kind = 2 ∧ 9 ≤ n ∧ n ≤ 25 ∨ kind = 3 ∧ n = 9) ∨
        crc16 ((h.bytes.take (n - 2)).drop 1) ≠ wordOf (byteAt h.bytes (n - 2)) (byteAt h.bytes (n - 1))) ∧
  (∀ (l : Layout) (h : Heard) (n : StationNo),
    let place := if l = .contended then 2 else 1
    let kind := (byteAt h.bytes place).toNat / 64
    readFrame l h = .misplaced n ↔
      readFrame l h ≠ .failed ∧ (l = .contended ∧ kind = 2 ∨ l ≠ .contended ∧ kind ≠ 2) ∧
        n.val = (byteAt h.bytes (place + if kind = 3 then 1 else 2)).toNat % 32) ∧
  (∀ (s : State) (h : Heard) (n : StationNo), s.nothingDue → s.link.followTail = false →
    (s.link.medium = .receiving ∨ s.link.medium = .contention ∧ s.link.contending = false) →
    readFrame s.link.layout h = .misplaced n → n ≠ s.own →
    exec (.frameReceived h) s = .next
      (State.checkLeaving
        (match s.link.layout with
          | .contended | .lateReply => { s with link := { s.link with medium := .gap, gap := .ordinary } }
          | .replySlot =>
            { s with
              link := { s.link with medium := .gap, gap := .ordinary, answer := none, answerBegun := false }
              responder := { s.responder with
                contexts := Vector.ofFn fun j => { s.context j with answerOwed := false }, holdTimer := none } }))) ∧
  ∀ (s : State) (h : Heard), s.nothingDue → s.link.followTail = false →
    (s.link.medium = .receiving ∨ s.link.medium = .contention ∧ s.link.contending = false) →
    readFrame s.link.layout h = .failed →
    exec (.frameReceived h) s = .next
      (State.checkLeaving
        (match s.link.layout with
          | .contended =>
            { s with link := { s.link with medium := .reserved, crcErrors := min (s.link.crcErrors + 1) 65535 } }
          | .lateReply =>
            { s with link := { s.link with
                medium := .gap, gap := .ordinary, crcErrors := min (s.link.crcErrors + 1) 65535 } }
          | .replySlot =>
            { s with
              link := { s.link with
                medium := .gap, gap := .ordinary, answer := none, answerBegun := false,
                crcErrors := min (s.link.crcErrors + 1) 65535 }
              responder := { s.responder with
                contexts := Vector.ofFn fun j => { s.context j with answerOwed := false }, holdTimer := none } }))

/-! ### The peer monitor -/

/-- A good BEACON from a peer: its sequence is kept and its silence count 0; with an equal digest it makes the record PRESENT or QUIET
at its wake level, with another MISMATCHED, and a LEAVING one ABSENT whatever its digest; a state code not assigned changes no
state (on a SILENT record its count is 0 all the same, log entry 26). A changed record posts its notice and is delivered to the requester
(R150, R151, R152, R155, R156). In LEAVING the end condition is then looked at (R172). That the frame is taken in CONTENTION, while this
station does not drive, is log entry 9. -/
def Obligations.BeaconsHeardSetTheRecord : Prop :=
  ∀ (s : State) (h : Heard) (b : Beacon), s.nothingDue →
    (s.link.medium = .receiving ∨ s.link.medium = .contention ∧ s.link.contending = false) →
    s.link.layout = .contended → s.link.followTail = false →
    readFrame .contended h = .good (.beacon b) → b.source ≠ s.own → (s.peer b.source).state ≠ .self →
    let before := (s.peer b.source).state
    let heard (st : PeerState) : State :=
      { s with
        link := { s.link with medium := .gap, gap := .ordinary }
        peers := s.peers.set b.source { state := st, silenceCount := 0, lastSequence := some b.sequence } }
    let moved (st : PeerState) (k : NoticeKind) (detail : Urgency) : State :=
      ((heard st).post { kind := k, station := b.source, detail := .number detail }).deliverTransition b.source before st
    (∀ (st : PeerState) (k : NoticeKind) (detail : Urgency),
      (b.stateCode = 0 ∧ s.link.ownDigest = some b.digest ∧ st = .present ∧ k = .peerUp ∧ detail = 0 ∨
        b.stateCode = 1 ∧ s.link.ownDigest = some b.digest ∧ st = .quiet b.wakeLevel ∧ k = .peerQuiet ∧
          detail = b.wakeLevel ∨
        (b.stateCode = 0 ∨ b.stateCode = 1) ∧ s.link.ownDigest ≠ some b.digest ∧ st = .mismatched ∧
          k = .peerMismatch ∧ detail = 0 ∨
        b.stateCode = 2 ∧ st = .absent ∧ k = .peerLeft ∧ detail = 0) →
      exec (.frameReceived h) s = .next (State.checkLeaving (if before = st then heard st else moved st k detail))) ∧
    (b.stateCode = 3 → exec (.frameReceived h) s = .next (heard before).checkLeaving)

/-- A transition delivered to the requester reaches the one active slot of the destination, if there is one. In flight, only an ending
is recorded, and the first one stays. Otherwise QUIET parks it at or below the wake level and un-parks it above, a return to PRESENT
un-parks it, and SILENT, ABSENT and MISMATCHED end it once its unbegun frame is withdrawn; its entry to DONE releases the slots BEHIND it,
which meet the record in its new state and are DONE after it, and no other slot changes (R29, R41, R42, R55, R56, R57, R58). -/
def Obligations.TransitionsReachTheActiveSlot : Prop :=
  ∀ (s : State) (d : StationNo) (before : PeerState),
    ((∀ i, (s.slot i).state.isActive = true → (s.slot i).descriptor.destination ≠ d) →
      ∀ after, s.deliverTransition d before after = s) ∧
    ∀ i : Tag, (s.slot i).state.isActive = true → (s.slot i).descriptor.destination = d →
      (∀ j, j ≠ i → (s.slot j).state.isActive = true → (s.slot j).descriptor.destination ≠ d) →
      let x := s.slot i
      let flying := x.state.isAwaiting || (x.state.isContending && s.link.begun)
      let put (y : Slot) : State := { s with requester := { s.requester with slots := s.requester.slots.set i y } }
      let withdrawn : Link :=
        if x.state.isContending then { s.link with tx := none, begun := false, contending := false } else s.link
      (∀ (after : PeerState) (e : Deferred), flying = true →
        (after = .silent ∧ e = .peerSilent ∨ after = .absent ∧ e = .peerLeft ∨
          after = .mismatched ∧ e = .peerMismatch) →
        s.deliverTransition d before after = put { x with deferred := some (x.deferred.getD e) }) ∧
      (∀ l, flying = true → s.deliverTransition d before (.quiet l) = s) ∧
      (∀ l, flying = false → x.descriptor.urgency ≤ l →
        s.deliverTransition d before (.quiet l) = { put { x with state := .parked } with link := withdrawn }) ∧
      (∀ l, flying = false → l < x.descriptor.urgency → x.state = .parked →
        s.deliverTransition d before (.quiet l) = put { x with state := .ready }) ∧
      (∀ l, flying = false → l < x.descriptor.urgency → x.state ≠ .parked →
        s.deliverTransition d before (.quiet l) = s) ∧
      (∀ k, before = .quiet k → x.state = .parked →
        s.deliverTransition d before .present = put { x with state := .ready }) ∧
      (x.state ≠ .parked → s.deliverTransition d before .present = s) ∧
      (∀ (after : PeerState) (st : Status), flying = false →
        (after = .silent ∧ st = .peerSilent ∨ after = .absent ∧ st = .peerLeft ∨
          after = .mismatched ∧ st = .peerMismatch) →
        let t := s.deliverTransition d before after
        t = State.endSlot { s with link := withdrawn } i st ∧
        t.slot i = { x with state := .done st s.requester.doneNext } ∧ t.link = withdrawn ∧
        (∀ j, j ≠ i → (s.slot j).state ≠ .behind ∨ (s.slot j).descriptor.destination ≠ d → t.slot j = s.slot j) ∧
        (∀ (j : Tag) (st' : Status), (s.slot j).state = .behind → (s.slot j).descriptor.destination = d →
          (s.peer d).state = after →
          (after = .silent ∧ st' = .peerSilent ∨ after = .absent ∧ st' = .peerAbsent ∨
            after = .mismatched ∧ st' = .peerMismatch) →
          ∃ n, s.requester.doneNext < n ∧ t.slot j = { s.slot j with state := .done st' n }) ∧
        t = { s with
          requester := { s.requester with slots := t.requester.slots, doneNext := t.requester.doneNext }
          link := withdrawn })

/-- A record heard neither by frame nor beacon over three ticks falls SILENT, the lowest-numbered first, with its notice and its
delivery; with none due nothing changes, log entry 8. A posted notice joins the tail, or with eight queued is lost and sets NOTICES-LOST
(R153, R155, R156, R183). -/
def Obligations.SilentPeersArePostedInOrder : Prop :=
  ∀ s : State,
    (∀ n : Notice, s.notices.records.length < 8 →
      s.post n = { s with notices := { s.notices with records := s.notices.records ++ [n] } }) ∧
    (∀ n : Notice, 8 ≤ s.notices.records.length →
      s.post n = { s with notices := { s.notices with lost := true } }) ∧
    let due (d : StationNo) : Prop :=
      (s.peer d).state ≠ .self ∧ (s.peer d).state ≠ .absent ∧ (s.peer d).state ≠ .silent ∧
        3 ≤ (s.peer d).silenceCount
    (∀ d : StationNo, due d → (∀ e, e < d → ¬due e) →
      exec .silenceCountExpiry s = .next
        (State.deliverTransition
          { s with
            peers := s.peers.set d { s.peer d with state := .silent }
            notices := (s.post { kind := .peerSilent, station := d, detail := .number 0 }).notices }
          d (s.peer d).state .silent)) ∧
    ((∀ d, ¬due d) → exec .silenceCountExpiry s = .next s)

/-! ### The responder -/

/-- A good SEGMENT from a peer sets its silence count to 0 and makes it PRESENT, with the notice PEER-UP, if it was ABSENT or SILENT. For
another station it does no more than that and reserves the line; for this one ACTIVE looks it up, QUIET looks up continuations and what
its wake level lets through, first reporting the wake, and answers the rest BUSY, LEAVING answers every one BUSY, malformed or not,
LISTENING ignores it, and in ACTIVE and QUIET fields that disagree are REFUSED with MALFORMED (R69, R70, R71, R72, R73, R131, R139,
R149, R155, R168, R172). A continuation has its first flag clear, or an offset other than 0 and a context held under its key. That the frame is
taken in CONTENTION, while this station does not drive, is log entry 9. -/
def Obligations.SegmentsReachTheResponder : Prop :=
  (∀ g : Segment, g.malformed = true ↔
    g.length.toNat = 0 ∨ 16 < g.length.toNat ∨ 256 < g.offset.toNat + g.length.toNat ∨
      (g.op = .write ∧ g.data.length ≠ g.length.toNat) ∨ (g.op = .read ∧ g.data ≠ [])) ∧
  (∀ (s : State) (g : Segment), s.keysKept →
    (s.continuation g = true ↔
      g.firstFlag = false ∨
        g.offset ≠ 0 ∧ ∃ j, (s.context j).state ≠ .free ∧ (s.context j).orphan = .clear ∧
          (s.context j).requester = g.source ∧ (s.context j).tag = g.tag ∧ (s.context j).generation = g.generation)) ∧
  ∀ (s : State) (h : Heard) (g : Segment), s.nothingDue →
    (s.link.medium = .receiving ∨ s.link.medium = .contention ∧ s.link.contending = false) →
    s.link.layout = .contended → s.link.followTail = false →
    readFrame .contended h = .good (.segment g) → g.source ≠ s.own → (s.peer g.source).state ≠ .self →
    let returns : Bool := (s.peer g.source).state = .absent ∨ (s.peer g.source).state = .silent
    let s1 : State :=
      { s with
        link := { s.link with medium := .reserved }
        peers := s.peers.set g.source
          { s.peer g.source with
            silenceCount := 0, state := if returns then .present else (s.peer g.source).state }
        notices :=
          if returns then (s.post { kind := .peerUp, station := g.source, detail := .number 0 }).notices else s.notices }
    let placed (code : AnswerCode) (cause : BitVec 4) : State :=
      { s1 with link := { s1.link with
          answer := some { destination := g.source, source := s.own, tag := g.tag, generation := g.generation,
                           offset := g.offset, code := code, cause := cause, count := 0, data := [] }
          answerBegun := false } }
    (g.destination ≠ s.own → exec (.frameReceived h) s = .next s1.checkLeaving) ∧
    (g.destination = s.own →
      (s.controller.station = .listening → exec (.frameReceived h) s = .next s1) ∧
      (s.controller.station = .leaving → exec (.frameReceived h) s = .next (placed .busy 0).checkLeaving) ∧
      (s.controller.station = .active ∨ (∃ l, s.controller.station = .quiet l) → g.malformed = true →
        exec (.frameReceived h) s = .next (placed .refused 8)) ∧
      (s.controller.station = .active → g.malformed = false →
        exec (.frameReceived h) s = .next (s1.lookup g)) ∧
      (∀ l, s.controller.station = .quiet l → g.malformed = false →
        (s.continuation g = true → exec (.frameReceived h) s = .next (s1.lookup g)) ∧
        (s.continuation g = false → l < g.urgency →
          exec (.frameReceived h) s = .next
            ((State.queueBeacon
              { s1 with
                controller := { s.controller with station := .active }
                notices := (s1.post { kind := .woken, station := g.source, detail := .number g.urgency }).notices }
              { state := .active, wakeLevel := 0 }).lookup g)) ∧
        (s.continuation g = false → g.urgency ≤ l →
          exec (.frameReceived h) s = .next (placed .busy 0))))

/-- Admission takes the lowest-numbered valid window that covers the address, then weighs the op against its access, then the source
against its requester mask, and bounds the length by the window's end (R101, R102, R103, R104). -/
def Obligations.AdmissionFollowsTheWindowTable : Prop :=
  ∀ (s : State) (g : Segment),
    let covers (n : EntryNo) : Prop :=
      s.windows[n].valid = true ∧ s.windows[n].spanBase.toNat ≤ g.address.toNat ∧
        g.address.toNat < s.windows[n].spanBase.toNat + 2 ^ s.windows[n].sizeExponent.toNat
    ((∀ n, ¬covers n) → s.admission g = .refused .noWindow) ∧
    ∀ n, covers n → (∀ m, m < n → ¬covers m) →
      let e := s.windows[n]
      let opOk : Prop := e.access.getLsbD (if g.op = .read then 0 else 1) = true
      let stationOk : Prop := e.requesterMask.getLsbD g.source.val = true
      (¬opOk → s.admission g = .refused .access) ∧
      (opOk → ¬stationOk → s.admission g = .refused .denied) ∧
      (opOk → stationOk →
        s.admission g =
          .admitted n (min g.length.toNat (e.spanBase.toNat + 2 ^ e.sizeExponent.toNat - g.address.toNat)))

/-- A segment whose key no context holds: refused by admission it is answered with the cause; without the first flag it is REPLAY-LOST
unless it is a prefetchable READ; admitted it takes the lowest FREE entry, else the least recently ANSWERED one, as a QUEUED context
with its answer owed and the hold point AW/2 away, else it is answered BUSY (R77, R79, R83, R84, R85, R86, R87). That the data buffer past a
WRITE's data bytes keeps what the entry held is the model's choice, log entry 27. -/
def Obligations.UnknownSegmentsTakeAnEntry : Prop :=
  ∀ (s : State) (g : Segment),
    (∀ j, (s.context j).state ≠ .free → (s.context j).orphan = .clear → (s.context j).requester = g.source →
      (s.context j).tag ≠ g.tag) →
    let placed (code : AnswerCode) (cause : BitVec 4) : State :=
      { s with link := { s.link with
          answer := some { destination := g.source, source := s.own, tag := g.tag, generation := g.generation,
                           offset := g.offset, code := code, cause := cause, count := 0, data := [] }
          answerBegun := false } }
    (∀ c : Cause, s.admission g = .refused c → s.lookup g = placed .refused (BitVec.ofNat 4 c.code)) ∧
    ∀ (w : EntryNo) (n : Nat), s.admission g = .admitted w n →
      (g.firstFlag = false → ¬(g.op = .read ∧ s.windows[w].prefetchable = true) → s.lookup g = placed .refused 7) ∧
      (g.firstFlag = true ∨ g.op = .read ∧ s.windows[w].prefetchable = true →
        (∀ j : EntryNo,
          ((s.context j).state = .free ∧ (∀ k, k < j → (s.context k).state ≠ .free) ∨
            (∀ k, (s.context k).state ≠ .free) ∧ (s.context j).state.isAnswered = true ∧
              (∀ k, k ≠ j → (s.context k).state.isAnswered = true →
                (s.context j).state.answeredTime < (s.context k).state.answeredTime)) →
          s.lookup g =
            { s with responder :=
                { contexts := s.responder.contexts.set j
                    { state := .queued, requester := g.source, tag := g.tag, generation := g.generation, op := g.op,
                      offset := g.offset, address := g.address, window := w, lengthInWindow := n, bytesMoved := 0,
                      data := Vector.ofFn fun k =>
                        if g.op = .write ∧ k.val < g.data.length then g.data.getD k.val 0 else (s.context j).data[k],
                      writePerformed := false, orphan := .clear, answerOwed := true,
                      creation := s.responder.creationNext }
                  holdTimer := some (s.aw / 2)
                  creationNext := s.responder.creationNext + 1
                  answeredNext := s.responder.answeredNext } }) ∧
        ((∀ k, (s.context k).state ≠ .free ∧ (s.context k).state.isAnswered = false) →
          s.lookup g = placed .busy 0))

/-- A segment for whose requester and tag a context is held. A first segment at offset 0 discards it, and so does any other of another
generation: a QUEUED or ANSWERED one is freed, a READY one is freed with its notice at once, a CYCLING one becomes an orphan that owes no
answer, and the segment then finds no context. Otherwise, at the same offset a repeat is answered from the stored result without a
cycle, or its answer is owed again while the run goes on, and another op is MALFORMED; a smaller offset is MALFORMED; a larger one meets
BUSY while the run goes on, and takes the entry of a READY or ANSWERED context over: refused by admission it frees the entry, admitted
it is the entry's new QUEUED context, and a READY one is reported dropped (R74, R77, R78, R79, R80, R81, R82, R84, R86, R87, R90,
R92). That the data buffer past a WRITE's data bytes keeps what the entry held is the model's choice, log entry 27, and so is what a freed
entry's other fields hold, log entry 30. -/
def Obligations.KnownSegmentsAreServed : Prop :=
  ∀ (s : State) (g : Segment) (j : EntryNo),
    (s.context j).state ≠ .free → (s.context j).orphan = .clear → (s.context j).requester = g.source →
    (s.context j).tag = g.tag →
    (∀ k, k ≠ j → (s.context k).state ≠ .free → (s.context k).orphan = .clear →
      (s.context k).requester = g.source → (s.context k).tag ≠ g.tag) →
    let c := s.context j
    let running : Prop := c.state = .queued ∨ c.state = .cycling
    let put (d : Context) : Responder := { s.responder with contexts := s.responder.contexts.set j d }
    let freed : Context := { c with state := .free, orphan := .clear, answerOwed := false }
    let dropped : Notices := (s.post { kind := .contextDropped, station := c.requester,
                                       detail := .dropped c.tag c.generation .replaced c.writePerformed }).notices
    let discarded : State :=
      match c.state with
      | .free => s
      | .queued => { s with responder := put freed }
      | .cycling => { s with responder := put { c with orphan := .replaced, answerOwed := false } }
      | .ready _ _ => { s with responder := put freed, notices := dropped }
      | .answered _ _ _ => { s with responder := put freed }
    let answer (code : AnswerCode) (cause : BitVec 4) (count : Byte) (data : List Byte) : Link :=
      { s.link with
        answer := some { destination := g.source, source := s.own, tag := g.tag, generation := g.generation,
                         offset := g.offset, code := code, cause := cause, count := count, data := data }
        answerBegun := false }
    (g.firstFlag = true ∧ g.offset = 0 ∨ c.generation ≠ g.generation → s.lookup g = discarded.lookup g ∧
      ∀ k, (discarded.context k).state ≠ .free → (discarded.context k).orphan = .clear →
        (discarded.context k).requester = g.source → (discarded.context k).tag ≠ g.tag) ∧
    (¬(g.firstFlag = true ∧ g.offset = 0) → c.generation = g.generation →
      (g.offset = c.offset → g.op ≠ c.op → s.lookup g = { s with link := answer .refused 8 0 [] }) ∧
      (g.offset.toNat < c.offset.toNat → s.lookup g = { s with link := answer .refused 8 0 [] }) ∧
      (c.offset.toNat < g.offset.toNat → running → s.lookup g = { s with link := answer .busy 0 0 [] }) ∧
      (g.offset = c.offset → g.op = c.op → running →
        s.lookup g = { s with responder := { put { c with answerOwed := true } with holdTimer := some (s.aw / 2) } }) ∧
      (∀ r : RunResult, g.offset = c.offset → g.op = c.op →
        ((∃ life, c.state = .ready r life) ∨ ∃ time life, c.state = .answered r time life) →
        s.lookup g =
          { s with
            link :=
              match r with
              | .taken n =>
                answer .taken 0 (BitVec.ofNat 8 n) (if c.op = .read then c.data.toList.take n else [])
              | .refused cause => answer .refused (BitVec.ofNat 4 cause.code) 0 []
            responder :=
              { put { c with state := .answered r s.responder.answeredNext s.cl, answerOwed := false } with
                answeredNext := s.responder.answeredNext + 1 } }) ∧
      (c.offset.toNat < g.offset.toNat → ¬running →
        let noted : Notices :=
          match c.state with
          | .ready _ _ => dropped
          | _ => s.notices
        (∀ cause, s.admission g = .refused cause →
          s.lookup g =
            { s with
              responder := put freed, notices := noted, link := answer .refused (BitVec.ofNat 4 cause.code) 0 [] }) ∧
        ∀ w n, s.admission g = .admitted w n →
          s.lookup g =
            { s with
              notices := noted
              responder :=
                { contexts := s.responder.contexts.set j
                    { state := .queued, requester := g.source, tag := g.tag, generation := g.generation, op := g.op,
                      offset := g.offset, address := g.address, window := w, lengthInWindow := n, bytesMoved := 0,
                      data := Vector.ofFn fun k =>
                        if g.op = .write ∧ k.val < g.data.length then g.data.getD k.val 0 else c.data[k],
                      writePerformed := false, orphan := .clear, answerOwed := true,
                      creation := s.responder.creationNext }
                  holdTimer := some (s.aw / 2)
                  creationNext := s.responder.creationNext + 1
                  answeredNext := s.responder.answeredNext } }))

/-- At the hold point the answer still owed is placed as HELD and owed no more. At the end of its lifetime a READY context is dropped
with its notice, an ANSWERED one without, and no other context is touched (R75, R89, R90).
That an expiry issued while its timer does not run (no hold timer; a FREE, QUEUED or CYCLING entry) changes nothing is the model's choice,
log entry 2, and so is what a freed entry's other fields hold, log entry 30. -/
def Obligations.HoldPointAndLifetimeExpire : Prop :=
  ∀ (s : State) (j : EntryNo),
    let freed : Responder := { s.responder with
      contexts := s.responder.contexts.set j { s.context j with state := .free, orphan := .clear, answerOwed := false } }
    (∀ n, s.responder.holdTimer = some n → (s.context j).answerOwed = true →
      (∀ k, k ≠ j → (s.context k).answerOwed = false) →
      exec .holdPointExpiry s = .next
        { s with
          responder := { s.responder with
            holdTimer := none, contexts := s.responder.contexts.set j { s.context j with answerOwed := false } }
          link := { s.link with
            answer := some { destination := (s.context j).requester, source := s.own, tag := (s.context j).tag,
                             generation := (s.context j).generation, offset := (s.context j).offset, code := .held,
                             cause := 0, count := 0, data := [] }
            answerBegun := false } }) ∧
    (s.responder.holdTimer = none → exec .holdPointExpiry s = .next s) ∧
    (∀ r n, (s.context j).state = .ready r n →
      exec (.contextLifetimeExpiry j) s = .next
        { s with
          responder := freed
          notices := (s.post { kind := .contextDropped, station := (s.context j).requester,
                               detail := .dropped (s.context j).tag (s.context j).generation .expired
                                 (s.context j).writePerformed }).notices }) ∧
    (∀ r t n, (s.context j).state = .answered r t n →
      exec (.contextLifetimeExpiry j) s = .next { s with responder := freed }) ∧
    ((s.context j).state = .free ∨ (s.context j).state = .queued ∨ (s.context j).state = .cycling →
      exec (.contextLifetimeExpiry j) s = .next s)

/-! ### The station controller's timers -/

/-- A tick raises the silence count of every PRESENT, QUIET and MISMATCHED record; in ACTIVE and QUIET it queues the beacon of that
state, in LISTENING it ends the listening period or shortens what is left of it; the end of the period enters ACTIVE, posts JOINED and
queues an ACTIVE beacon (R153, R165, R169, R170). The listen timer is kept as the time left, and an expiry whose timer does
not run changes nothing, log entry 2; that either row ends the listening period, LISTEN_TIMER_EXPIRY with any time left, is log
entry 18. -/
def Obligations.TicksAgeAndBeacon : Prop :=
  ∀ s : State, s.nothingDue →
    let aged : Vector PeerRecord 32 := Vector.ofFn fun d =>
      { s.peer d with
        silenceCount :=
          match (s.peer d).state with
          | .present | .quiet _ | .mismatched => (s.peer d).silenceCount + 1
          | .self | .absent | .silent => (s.peer d).silenceCount }
    let joined : State :=
      { s with
        peers := aged
        controller := { s.controller with
          station := .active, listenTimer := none, pendingBeacon := some { state := .active, wakeLevel := 0 } }
        notices := (s.post { kind := .joined, station := s.own, detail := .number 0 }).notices }
    (∀ left, s.controller.station = .listening → s.controller.listenTimer = some left → s.link.tx = none →
      exec .listenTimerExpiry s = .next joined) ∧
    (∀ period, s.controller.beaconTimer = some period →
      (s.controller.station = .active →
        exec .beaconPeriodTick s = .next
          (State.queueBeacon { s with peers := aged } { state := .active, wakeLevel := 0 })) ∧
      (∀ l, s.controller.station = .quiet l →
        exec .beaconPeriodTick s = .next
          (State.queueBeacon { s with peers := aged } { state := .quiet, wakeLevel := l })) ∧
      (s.controller.station = .leaving → exec .beaconPeriodTick s = .next { s with peers := aged }) ∧
      (∀ left, s.controller.station = .listening → s.controller.listenTimer = some left → s.bp < left →
        exec .beaconPeriodTick s = .next
          { s with peers := aged, controller := { s.controller with listenTimer := some (left - s.bp) } }) ∧
      (∀ left, s.controller.station = .listening → s.controller.listenTimer = some left → left ≤ s.bp →
        s.link.tx = none → exec .beaconPeriodTick s = .next joined)) ∧
    (s.controller.beaconTimer = none → exec .beaconPeriodTick s = .next s) ∧
    (s.controller.station ≠ .listening → exec .listenTimerExpiry s = .next s)

/-! ### The target bus -/

/-- The idle unit takes the QUEUED context of the oldest creation order, holds its window's fields, and, with the last termination
withdrawn, starts its first attempt: the mapped address, its size and direction, write data on the cycle's lanes, and the monitor at
TW. A busy unit, or none queued, changes nothing, log entry 8
(R105, R110, R111, R112, R113, R115). A width-cap code 0, which no JOIN
lets pass, is held as 1, the model's choice, log entry 20. -/
def Obligations.ArbiterTakesTheOldestQueued : Prop :=
  ∀ s : State,
    (∀ j : EntryNo, s.target.current = none → (s.context j).state = .queued →
      (∀ k, k ≠ j → (s.context k).state = .queued → (s.context j).creation < (s.context k).creation) →
      let c := s.context j
      let e := s.windows[c.window]
      let cap := 2 ^ (e.widthCap.toNat - 1)
      let address : BitVec 24 :=
        BitVec.ofNat 24 (e.localBase.toNat + (c.address.toNat - e.spanBase.toNat) + c.bytesMoved)
      let size := cycleSize cap (c.lengthInWindow - c.bytesMoved) address.toNat
      let held : HeldWindow := { spanBase := e.spanBase, localBase := e.localBase, widthCap := cap, burst := e.burst }
      let taken : Responder := { s.responder with contexts := s.responder.contexts.set j { c with state := .cycling } }
      (s.target.monitor = .stopped →
        exec .targetBusArbiter s = .next
          { s with
            responder := taken
            target :=
              { current := some j, held := some held,
                cycle := some { address := address, size := size, write := c.op == .write, attempt := 1 },
                retryCount := 0, monitor := .termination s.tw,
                pins :=
                  { strobe := true, address := address,
                    sizeCode := if size = 4 then 2 else if size = 2 then 1 else 0,
                    direction := c.op == .write,
                    lanes := Vector.ofFn fun k =>
                      if c.op = .write ∧ address.toNat % 4 ≤ k.val ∧ k.val < address.toNat % 4 + size then
                        some (c.data.toList.getD (c.bytesMoved + (k.val - address.toNat % 4)) 0)
                      else none } } }) ∧
      (s.target.monitor ≠ .stopped →
        exec .targetBusArbiter s = .next
          { s with
            responder := taken
            target := { s.target with current := some j, held := some held, cycle := none, retryCount := 0 } })) ∧
    (s.target.current ≠ none ∨ (∀ j, (s.context j).state ≠ .queued) → exec .targetBusArbiter s = .next s)

/-- The size of a cycle is the largest of 4, 2 and 1 that is at most the width cap, at most the bytes remaining, and divides the local
address; size 1 always meets the three, and the cycle's lanes from (local address mod 4) stay within one word. -/
def Obligations.CycleSizeIsTheLargestThatFits : Prop :=
  ∀ cap remaining address : Nat, 1 ≤ cap → 1 ≤ remaining →
    let fits (n : Nat) : Prop := n ≤ cap ∧ n ≤ remaining ∧ n ∣ address
    let size := cycleSize cap remaining address
    fits 1 ∧ (size = 4 ∨ size = 2 ∨ size = 1) ∧ fits size ∧
      (∀ n, n = 4 ∨ n = 2 ∨ n = 1 → fits n → n ≤ size) ∧ address % 4 + size ≤ 4

/-- What a termination of the running attempt makes of it. An acknowledge moves the smaller of the cycle's size and the device's width,
collecting a READ's lanes, and goes on in a burst or ends the run TAKEN; a retry request waits for a further attempt until the limit
is passed; an error, or a width code that names no width, fails the run. None is taken while no attempt runs (R116, R117, R118, R119,
R120, R121). That write data is no longer driven after it, in a run that goes on, is log entry 25, and that the direction output holds is
log entry 24. That with a retry limit above 15, which only OFFLINE can hold, the count goes past 16 is log entry 28. -/
def Obligations.TerminationsTakeTheirCourses : Prop :=
  ∀ (s : State) (sig : Termination),
    ((∀ n, s.target.monitor ≠ .termination n) → exec (.targetTermination sig) s = .next s) ∧
    ∀ (n : Nat) (j : EntryNo) (h : HeldWindow) (y : Cycle), s.target.monitor = .termination n →
      s.target.current = some j → s.target.held = some h → s.target.cycle = some y →
      let c := s.context j
      let quiet : BusPins := { s.target.pins with strobe := false, lanes := Vector.replicate 4 none }
      let waiting : State := { s with target := { s.target with monitor := .withdrawal s.tw false, pins := quiet } }
      let failed (cause : Cause) : State :=
        waiting.endRun j (if c.bytesMoved = 0 then .refused cause else .taken c.bytesMoved)
      (sig.terr = true ∨ (sig.trty = false ∧ sig.tack = some 0) →
        exec (.targetTermination sig) s = .next (failed .targetError)) ∧
      (sig.terr = false → sig.trty = true → s.trl < s.target.retryCount + 1 →
        exec (.targetTermination sig) s = .next (failed .targetRetry)) ∧
      (sig.terr = false → sig.trty = true → s.target.retryCount + 1 ≤ s.trl →
        exec (.targetTermination sig) s = .next
          { s with target := { s.target with
              retryCount := s.target.retryCount + 1, monitor := .withdrawal s.tw true, pins := quiet } }) ∧
      ∀ code : BitVec 2, sig.terr = false → sig.trty = false → sig.tack = some code → code ≠ 0 →
        let m := min y.size (2 ^ (code.toNat - 1))
        let c' : Context := { c with
          bytesMoved := c.bytesMoved + m
          writePerformed := c.writePerformed || y.write
          data := Vector.ofFn fun k =>
            if y.write = false ∧ c.bytesMoved ≤ k.val ∧ k.val < c.bytesMoved + m then
              BitVec.ofNat 8 (sig.data.toNat / 2 ^ (8 * (y.address.toNat % 4 + (k.val - c.bytesMoved))))
            else c.data[k] }
        let moved (goesOn : Bool) : State :=
          { s with
            responder := { s.responder with contexts := s.responder.contexts.set j c' }
            target := { s.target with
              cycle := none, retryCount := 0, monitor := .withdrawal s.tw goesOn, pins := quiet } }
        (h.burst = true → c.bytesMoved + m < c.lengthInWindow →
          exec (.targetTermination sig) s = .next (moved true)) ∧
        (h.burst = false ∨ c.lengthInWindow ≤ c.bytesMoved + m →
          exec (.targetTermination sig) s = .next ((moved false).endRun j (.taken (c.bytesMoved + m))))

/-- The end of a run: the unit is idle; a result still owed is answered and the context ANSWERED, one not owed is kept READY, a replaced
orphan is freed with its notice and an isolated one without (R70, R76, R88, R90, R92, R121, R122). In LEAVING the end of the last run
queues the LEAVING beacon (R172; LeaveStartsTheLeavingSequence says what the check does). What a
freed entry's other fields hold is the model's choice, log entry 30. -/
def Obligations.RunsHandTheirResultOver : Prop :=
  ∀ (s : State) (j : EntryNo) (r : RunResult),
    let c := s.context j
    let idle : TargetBus := { s.target with current := none, held := none, cycle := none, retryCount := 0 }
    let freed : Responder := { s.responder with
      contexts := s.responder.contexts.set j { c with state := .free, orphan := .clear, answerOwed := false } }
    (c.orphan = .clear → c.answerOwed = false →
      s.endRun j r = State.checkLeaving { s with
        target := idle
        responder := { s.responder with contexts := s.responder.contexts.set j { c with state := .ready r s.cl } } }) ∧
    (c.orphan = .clear → c.answerOwed = true →
      s.endRun j r = State.checkLeaving { s with
        target := idle
        link := { s.link with
          answer := some
            { destination := c.requester, source := s.own, tag := c.tag, generation := c.generation, offset := c.offset,
              code := match r with
                | .taken _ => .taken
                | .refused _ => .refused
              cause := match r with
                | .taken _ => 0
                | .refused cause => BitVec.ofNat 4 cause.code
              count := match r with
                | .taken n => BitVec.ofNat 8 n
                | .refused _ => 0
              data := match r, c.op with
                | .taken n, .read => c.data.toList.take n
                | _, _ => [] }
          answerBegun := false }
        responder := { s.responder with
          holdTimer := none
          contexts := s.responder.contexts.set j
            { c with state := .answered r s.responder.answeredNext s.cl, answerOwed := false }
          answeredNext := s.responder.answeredNext + 1 } }) ∧
    (c.orphan = .replaced →
      s.endRun j r = State.checkLeaving { s with
        target := idle, responder := freed
        notices := (s.post { kind := .contextDropped, station := c.requester,
                             detail := .dropped c.tag c.generation .replaced c.writePerformed }).notices }) ∧
    (c.orphan = .isolated → s.endRun j r = State.checkLeaving { s with target := idle, responder := freed })

/-- The withdrawal of a termination lets the run's next attempt start: a further one of a retried cycle, else the first of a new cycle;
with no run it only stops the monitor. The monitor's expiry fails the run with TARGET-TIMEOUT while it waits for a termination, or for
a withdrawal in a run that goes on; when the run has ended it ends the wait, and a next context already taken starts its first cycle then
(R105, R113, R114, R115, R118, R120, R121). That a withdrawal while a termination is awaited changes nothing is the model's choice, log
entry 8, that an expiry while the monitor is stopped changes nothing is log entry 2, and that the direction output holds when the monitor
ends an attempt is log entry 24. -/
def Obligations.WithdrawalAndMonitorExpiry : Prop :=
  ∀ s : State,
    (∀ n goesOn, s.target.monitor = .withdrawal n goesOn →
      (s.target.current = none →
        exec .terminationWithdrawn s = .next { s with target := { s.target with monitor := .stopped } } ∧
          (goesOn = false →
            exec .targetMonitorExpiry s = .next { s with target := { s.target with monitor := .stopped } })) ∧
      (∀ j h, s.target.current = some j → s.target.held = some h →
        (∀ y, s.target.cycle = some y →
          exec .terminationWithdrawn s = .next (s.startCycle y (s.context j)) ∧
            (goesOn = false → exec .targetMonitorExpiry s = .next (s.startCycle y (s.context j)))) ∧
        (s.target.cycle = none →
          exec .terminationWithdrawn s = .next (s.startCycle (formCycle h (s.context j)) (s.context j)) ∧
            (goesOn = false →
              exec .targetMonitorExpiry s = .next (s.startCycle (formCycle h (s.context j)) (s.context j)))) ∧
        (goesOn = true →
          exec .targetMonitorExpiry s = .next
            (State.endRun { s with target := { s.target with monitor := .stopped } } j
              (if (s.context j).bytesMoved = 0 then .refused .targetTimeout
               else .taken (s.context j).bytesMoved))))) ∧
    (∀ n j, s.target.monitor = .termination n → s.target.current = some j →
      exec .terminationWithdrawn s = .next s ∧
        exec .targetMonitorExpiry s = .next
          (State.endRun
            { s with target := { s.target with
                monitor := .stopped
                pins := { s.target.pins with strobe := false, lanes := Vector.replicate 4 none } } } j
            (if (s.context j).bytesMoved = 0 then .refused .targetTimeout
             else .taken (s.context j).bytesMoved))) ∧
    (s.target.monitor = .stopped →
      exec .terminationWithdrawn s = .next s ∧ exec .targetMonitorExpiry s = .next s) ∧
    (∀ (h : HeldWindow) (c : Context),
      let address : BitVec 24 := BitVec.ofNat 24 (h.localBase.toNat + (c.address.toNat - h.spanBase.toNat) + c.bytesMoved)
      formCycle h c =
        { address := address, size := cycleSize h.widthCap (c.lengthInWindow - c.bytesMoved) address.toNat,
          write := c.op == .write, attempt := 0 }) ∧
    ∀ (y : Cycle) (c : Context),
      s.startCycle y c =
        { s with target := { s.target with
            cycle := some { y with attempt := s.target.retryCount + 1 }
            monitor := .termination s.tw
            pins :=
              { strobe := true, address := y.address,
                sizeCode := if y.size = 4 then 2 else if y.size = 2 then 1 else 0, direction := y.write,
                lanes := Vector.ofFn fun k =>
                  if y.write = true ∧ y.address.toNat % 4 ≤ k.val ∧ k.val < y.address.toNat % 4 + y.size then
                    some (c.data.toList.getD (c.bytesMoved + (k.val - y.address.toNat % 4)) 0)
                  else none } } }

/-! ### Frames on the line -/

/-- What one station sends is what another reads. A SEGMENT with up to 16 data bytes and a BEACON read back field by field in the
contended layout under any contention code, and an ANSWER in the reply slot and in the late-reply gap; spare bits that are set do not
change what is read (R127, R130, R137, R138, R195). The frames are the bytes of 12.1: sync byte, fields, and the CRC over the fields, low
byte first. On the line each byte is a character of ten levels, the characters follow without pause, ten levels in a row are never all
recessive, and a receiver hears the bytes back: up to the start-bit position that reads recessive, or up to a character whose stop bit
reads dominant, a framing error. A station that drives no frame leaves the line recessive (R127). The CRC starts at 0xFFFF and takes the bits of each byte, the most
significant first: it shifts left, and where its top bit differs from the bit it is xored with 0x1021 (R138). -/
def Obligations.FramesSentAreReadBack : Prop :=
  (crc16 [] = 0xFFFF ∧
    ∀ (bs : List Byte) (b : Byte),
      let next (r : Word) (x : Bool) : Word := if r.getLsbD 15 = x then r <<< 1 else (r <<< 1) ^^^ 0x1021
      crc16 (bs ++ [b]) =
        [b.getLsbD 7, b.getLsbD 6, b.getLsbD 5, b.getLsbD 4, b.getLsbD 3, b.getLsbD 2, b.getLsbD 1, b.getLsbD 0].foldl
          next (crc16 bs)) ∧
  (∀ (b : Byte) (rest : List Level) (bs : List Byte),
    let level (x : Bool) : Level := if x then .recessive else .dominant
    let bits : List Level :=
      [level (b.getLsbD 7), level (b.getLsbD 6), level (b.getLsbD 5), level (b.getLsbD 4), level (b.getLsbD 3),
        level (b.getLsbD 2), level (b.getLsbD 1), level (b.getLsbD 0)]
    lineLevels [] = [] ∧ lineLevels (b :: bs) = .dominant :: (bits ++ .recessive :: lineLevels bs) ∧
    (lineLevels bs).length = 10 * bs.length ∧
    (∀ k, k + 10 ≤ 10 * bs.length → ∃ j, j < 10 ∧ (lineLevels bs)[k + j]? = some .dominant) ∧
    (rest.head? ≠ some .dominant → hearLine (lineLevels bs ++ rest) = { bytes := bs, framingError := false }) ∧
    hearLine (lineLevels bs ++ .dominant :: (bits ++ .dominant :: rest)) = { bytes := bs ++ [b], framingError := true }) ∧
  (∀ (s : State) (k : Nat),
    (s.drivenFrame = none → s.drivenLevel k = .recessive) ∧
    ∀ bs, s.drivenFrame = some bs →
      (k < 10 * bs.length → (lineLevels bs)[k]? = some (s.drivenLevel k)) ∧
      (10 * bs.length ≤ k → s.drivenLevel k = .recessive)) ∧
  (∀ (code : Byte) (g : Segment) (a : Answer) (own : StationNo) (b : OwnBeacon),
    (segmentFrame code g).length = 14 + g.data.length ∧ (answerFrame a).length = 9 + a.data.length ∧
      (beaconFrame code own b).length = 9) ∧
  (∀ (code : Byte) (g : Segment), g.data.length ≤ 16 →
    readFrame .contended { bytes := segmentFrame code g, framingError := false } = .good (.segment g)) ∧
  (∀ (l : Layout) (a : Answer), l ≠ .contended → a.data.length ≤ 16 →
    readFrame l { bytes := answerFrame a, framingError := false } = .good (.answer a)) ∧
  (∀ (code : Byte) (own : StationNo) (b : OwnBeacon),
    readFrame .contended { bytes := beaconFrame code own b, framingError := false } =
      .good (.beacon
        { stateCode := match b.state with
            | .active => 0
            | .quiet => 1
            | .leaving => 2
          wakeLevel := b.wakeLevel, source := own, sequence := b.sequence, digest := b.digest })) ∧
  let framed (body : List Byte) : List Byte :=
    0x96 :: (body ++ [BitVec.ofNat 8 (crc16 body).toNat, BitVec.ofNat 8 ((crc16 body).toNat / 256)])
  let flag (b : Bool) (n : Nat) : Nat := if b then n else 0
  let station (n : StationNo) (spare : Nat) : Byte := BitVec.ofNat 8 (n.val + spare)
  let tagged (t : Tag) (g : Generation) (spare : Nat) : Byte := BitVec.ofNat 8 (t.val + 8 * g.val + spare)
  (∀ (code : Byte) (g : Segment) (s1 s4 : Bool) (s2 s3 : Fin 8),
    let bytes (s1 : Bool) (s2 s3 : Fin 8) (s4 : Bool) : List Byte :=
      framed
        ([code,
          BitVec.ofNat 8 (64 + flag (g.op == .write) 32 + flag g.firstFlag 16 + 2 * g.urgency.val + flag s1 1),
          station g.destination (32 * s2.val), station g.source (32 * s3.val), tagged g.tag g.generation (flag s4 128),
          g.offset, BitVec.ofNat 8 g.address.toNat, BitVec.ofNat 8 (g.address.toNat / 256),
          BitVec.ofNat 8 (g.address.toNat / 65536), BitVec.ofNat 8 (g.address.toNat / 16777216), g.length] ++ g.data)
    segmentFrame code g = bytes false 0 0 false ∧
      (g.data.length ≤ 16 →
        readFrame .contended { bytes := bytes s1 s2 s3 s4, framingError := false } = .good (.segment g))) ∧
  (∀ (l : Layout) (a : Answer) (s4 : Bool) (s2 s3 : Fin 8),
    let bytes (s2 s3 : Fin 8) (s4 : Bool) : List Byte :=
      framed
        ([BitVec.ofNat 8
            (128 + (match a.code with
              | .taken => 0
              | .held => 16
              | .busy => 32
              | .refused => 48) + a.cause.toNat),
          station a.destination (32 * s2.val), station a.source (32 * s3.val), tagged a.tag a.generation (flag s4 128),
          a.offset, a.count] ++ a.data)
    answerFrame a = bytes 0 0 false ∧
      (l ≠ .contended → a.data.length ≤ 16 →
        readFrame l { bytes := bytes s2 s3 s4, framingError := false } = .good (.answer a))) ∧
  ∀ (code : Byte) (own : StationNo) (b : OwnBeacon) (s1 : Bool) (s2 : Fin 8),
    let bytes (s1 : Bool) (s2 : Fin 8) : List Byte :=
      framed
        [code,
          BitVec.ofNat 8
            (192 + (match b.state with
              | .active => 0
              | .quiet => 16
              | .leaving => 32) + 2 * b.wakeLevel.val + flag s1 1),
          station own (32 * s2.val), b.sequence, BitVec.ofNat 8 b.digest.toNat, BitVec.ofNat 8 (b.digest.toNat / 256)]
    beaconFrame code own b = bytes false 0 ∧
      readFrame .contended { bytes := bytes s1 s2, framingError := false } =
        readFrame .contended { bytes := beaconFrame code own b, framingError := false }

/-! ### Conditions every step keeps -/

/-- Every step keeps the queues within their capacities, their counts true, and the fence wait set exactly while a FENCE is at the
head (R4, R12, R14, R177, R181, R183). -/
def Obligations.EveryStepKeepsTheQueues : Prop :=
  (∀ q : List Descriptor, fenceAtHead q = true ↔ ∃ d rest, q = d :: rest ∧ d.kind = .fence) ∧
  ∀ s t : State, s.queuesKept → step s = .next t →
    t.queuesKept ∧
      (t.requester.fenceWait = true ↔ ∃ d rest, t.requester.queue = d :: rest ∧ d.kind = .fence)

/-- Every step keeps staging memory in its canonical form inside 8192 bytes, the link unit's counts in their ranges, the configuration
locked and the digest held exactly outside OFFLINE, the own record alone SELF, and a station that may not send silent: nothing
loaded, placed, pending, owed or driven (R22, R135, R137, R140, R142, R144, R147, R164). While RESETN is asserted every block stays in
its cold-reset values (R175, R187). -/
def Obligations.EveryStepKeepsTheStationOrdered : Prop :=
  ∀ s t : State,
    s.stagingCanonical ∧ s.linkCountsKept ∧ s.lockKept ∧ s.ownRecordKept ∧ s.silentWhenOff ∧ s.resetKept →
    step s = .next t →
    t.stagingCanonical ∧ t.linkCountsKept ∧ t.lockKept ∧ t.ownRecordKept ∧ t.silentWhenOff ∧ t.resetKept

/-- Every step keeps the exchanges and the contexts consistent: a slot CONTENDING exactly while its segment is loaded, one AWAITING at
most and none loaded meanwhile, a context CYCLING exactly while the unit serves it, and one context at most for a requester and tag
(R26, R32, R74, R92, R111, R132). A station that may not send is silent throughout. -/
def Obligations.EveryStepKeepsExchangesAndContexts : Prop :=
  ∀ s t : State,
    s.silentWhenOff ∧ s.exchangesKept ∧ s.cyclingKept ∧ s.keysKept → step s = .next t →
    t.silentWhenOff ∧ t.exchangesKept ∧ t.cyclingKept ∧ t.keysKept

/-- The machine right after reset meets every condition of a safe state (R4, R21, R22, R95, R125, R145, R157, R175, R177, R183). -/
def Obligations.ResetIsSafe : Prop :=
  State.reset.Safe

end
end

