-- ==== Sys2Proof/Laws/Operands.lean ====
section
/-! SUPPORT. What the choices of an arbiter say: the lowest-numbered index a test admits, and the best one of several. -/

namespace Sys2Proof.Machine

/-- What `lowestOf` finds: an admitted index below which none is admitted. -/
theorem lowestOf_eq_some {admits : Fin 8 → Bool} {i : Fin 8} (h : lowestOf admits = some i) :
    admits i = true ∧ ∀ j, j < i → admits j = false := by
  have hi := List.find?_some h
  refine ⟨hi, fun j hj => ?_⟩
  obtain ⟨as, bs, hlist, hnone⟩ := (List.find?_eq_some_iff_append.1 h).2
  have hmem : j ∈ List.finRange 8 := List.mem_finRange j
  rw [hlist] at hmem
  have hsorted : (as ++ i :: bs).Pairwise (· < ·) := by rw [← hlist]; exact List.pairwise_lt_finRange 8
  rcases List.mem_append.1 hmem with hj' | hj'
  · simpa using hnone j hj'
  · rcases List.mem_cons.1 hj' with rfl | hj'
    · exact absurd hj (lt_irrefl _)
    · have := (List.pairwise_cons.1 (List.pairwise_append.1 hsorted).2.1).1 j hj'
      exact absurd hj (lt_asymm this)

/-- When `lowestOf` finds nothing, no index is admitted. -/
theorem lowestOf_eq_none {admits : Fin 8 → Bool} : lowestOf admits = none ↔ ∀ i, admits i = false := by
  simp [lowestOf, List.find?_eq_none]

/-- One comparison of `bestOf`. -/
def bestStep (admits : Fin 8 → Bool) (better : Fin 8 → Fin 8 → Bool) (best : Option (Fin 8)) (i : Fin 8) :
    Option (Fin 8) :=
  if admits i then
    match best with
    | none => some i
    | some b => if better i b then some i else some b
  else best

theorem bestOf_eq_foldl (admits : Fin 8 → Bool) (better : Fin 8 → Fin 8 → Bool) :
    bestOf admits better = (List.finRange 8).foldl (bestStep admits better) none := rfl

/-- After a fold the best index is admitted, or is the one the fold began with. -/
theorem bestStep_foldl_admitted {admits : Fin 8 → Bool} {better : Fin 8 → Fin 8 → Bool} {l : List (Fin 8)}
    {b : Option (Fin 8)} {i : Fin 8} (h : l.foldl (bestStep admits better) b = some i) :
    b = some i ∨ (i ∈ l ∧ admits i = true) := by
  induction l generalizing b with
  | nil => exact .inl h
  | cons k l ih =>
    rcases ih h with h' | ⟨hm, ha⟩
    · unfold bestStep at h'
      split at h'
      · split at h'
        · obtain rfl : k = i := by simpa using h'
          exact .inr ⟨by simp, by assumption⟩
        · split at h'
          · obtain rfl : k = i := by simpa using h'
            exact .inr ⟨by simp, by assumption⟩
          · exact .inl h'
      · exact .inl h'
    · exact .inr ⟨by simp [hm], ha⟩

/-- A fold that begins with an index, or meets an admitted one, ends with one. -/
theorem bestStep_foldl_isSome {admits : Fin 8 → Bool} {better : Fin 8 → Fin 8 → Bool} {l : List (Fin 8)}
    {b : Option (Fin 8)} (h : b.isSome ∨ ∃ i ∈ l, admits i = true) :
    (l.foldl (bestStep admits better) b).isSome := by
  induction l generalizing b with
  | nil => simpa using h
  | cons k l ih =>
    refine ih ?_
    by_cases hk : admits k = true
    · refine .inl ?_
      unfold bestStep
      rw [if_pos hk]
      split
      · rfl
      · split <;> rfl
    · rcases h with hb | ⟨i, hi, ha⟩
      · exact .inl (by simpa [bestStep, hk] using hb)
      · rcases List.mem_cons.1 hi with rfl | hi
        · exact absurd ha hk
        · exact .inr ⟨i, hi, ha⟩

/-- What `bestOf` finds is admitted. -/
theorem bestOf_admitted {admits : Fin 8 → Bool} {better : Fin 8 → Fin 8 → Bool} {i : Fin 8}
    (h : bestOf admits better = some i) : admits i = true := by
  rw [bestOf_eq_foldl] at h
  rcases bestStep_foldl_admitted h with h | ⟨-, h⟩
  · cases h
  · exact h

/-- When `bestOf` finds nothing, no index is admitted. -/
theorem bestOf_eq_none {admits : Fin 8 → Bool} {better : Fin 8 → Fin 8 → Bool} :
    bestOf admits better = none ↔ ∀ i, admits i = false := by
  rw [bestOf_eq_foldl]
  constructor
  · intro h i
    by_contra ha
    have := bestStep_foldl_isSome (better := better) (b := none)
      (.inr ⟨i, List.mem_finRange i, by simpa using ha⟩)
    simp [h] at this
  · intro h
    rcases hb : (List.finRange 8).foldl (bestStep admits better) none with _ | i
    · rfl
    · rcases bestStep_foldl_admitted hb with h' | ⟨-, h'⟩
      · cases h'
      · simp [h i] at h'

/-- The fold keeps an index that nothing admitted in the list is better than. -/
theorem bestStep_foldl_minimal {admits : Fin 8 → Bool} {key : Fin 8 → Nat} {l : List (Fin 8)} {b : Option (Fin 8)}
    {i : Fin 8} (h : l.foldl (bestStep admits fun x y => decide (key x < key y)) b = some i) :
    (∀ j ∈ l, admits j = true → key i ≤ key j) ∧ ∀ c, b = some c → key i ≤ key c := by
  induction l generalizing b with
  | nil =>
    refine ⟨by simp, fun c hc => ?_⟩
    obtain rfl : c = i := by simpa [hc] using h
    exact le_refl _
  | cons k l ih =>
    obtain ⟨hl, hb⟩ := ih h
    by_cases hk : admits k = true
    · rcases b with _ | c
      · have := hb k (by simp [bestStep, hk])
        refine ⟨fun j hj ha => ?_, by simp⟩
        rcases List.mem_cons.1 hj with rfl | hj
        · exact this
        · exact hl j hj ha
      · by_cases hlt : key k < key c
        · have := hb k (by simp [bestStep, hk, hlt])
          refine ⟨fun j hj ha => ?_, fun d hd => ?_⟩
          · rcases List.mem_cons.1 hj with rfl | hj
            · exact this
            · exact hl j hj ha
          · obtain rfl : c = d := by simpa using hd
            omega
        · have := hb c (by simp [bestStep, hk, hlt])
          refine ⟨fun j hj ha => ?_, fun d hd => ?_⟩
          · rcases List.mem_cons.1 hj with rfl | hj
            · omega
            · exact hl j hj ha
          · obtain rfl : c = d := by simpa using hd
            exact this
    · refine ⟨fun j hj ha => ?_, fun c hc => hb c (by simp [bestStep, hk, hc])⟩
      rcases List.mem_cons.1 hj with rfl | hj
      · exact absurd ha hk
      · exact hl j hj ha

/-- When the order is by a number, what `bestOf` finds has the least one. -/
theorem bestOf_minimal {admits : Fin 8 → Bool} {key : Fin 8 → Nat} {i : Fin 8}
    (h : bestOf admits (fun x y => decide (key x < key y)) = some i) (j : Fin 8) (hj : admits j = true) :
    key i ≤ key j :=
  (bestStep_foldl_minimal h).1 j (List.mem_finRange j) hj

end Sys2Proof.Machine
end

