-- ==== Sys2Proof/Laws/State.lean ====
section
/-! SUPPORT. What each block update of `State` does to each block: one lemma per block per update, true by `rfl`. -/

namespace Sys2Proof.Machine

variable (s : State)

/-! ### `State.onRequester` -/

@[simp] theorem State.onRequester_requester (f : Requester → Requester) : (s.onRequester f).requester = f s.requester := rfl
@[simp] theorem State.onRequester_staging (f : Requester → Requester) : (s.onRequester f).staging = s.staging := rfl
@[simp] theorem State.onRequester_responder (f : Requester → Requester) : (s.onRequester f).responder = s.responder := rfl
@[simp] theorem State.onRequester_windows (f : Requester → Requester) : (s.onRequester f).windows = s.windows := rfl
@[simp] theorem State.onRequester_target (f : Requester → Requester) : (s.onRequester f).target = s.target := rfl
@[simp] theorem State.onRequester_link (f : Requester → Requester) : (s.onRequester f).link = s.link := rfl
@[simp] theorem State.onRequester_peers (f : Requester → Requester) : (s.onRequester f).peers = s.peers := rfl
@[simp] theorem State.onRequester_controller (f : Requester → Requester) : (s.onRequester f).controller = s.controller := rfl
@[simp] theorem State.onRequester_completions (f : Requester → Requester) : (s.onRequester f).completions = s.completions := rfl
@[simp] theorem State.onRequester_notices (f : Requester → Requester) : (s.onRequester f).notices = s.notices := rfl
@[simp] theorem State.onRequester_hostPort (f : Requester → Requester) : (s.onRequester f).hostPort = s.hostPort := rfl
@[simp] theorem State.onRequester_pending (f : Requester → Requester) : (s.onRequester f).pending = s.pending := rfl

/-! ### `State.setStaging` -/

@[simp] theorem State.setStaging_requester (m : Memory) : (s.setStaging m).requester = s.requester := rfl
@[simp] theorem State.setStaging_staging (m : Memory) : (s.setStaging m).staging = m := rfl
@[simp] theorem State.setStaging_responder (m : Memory) : (s.setStaging m).responder = s.responder := rfl
@[simp] theorem State.setStaging_windows (m : Memory) : (s.setStaging m).windows = s.windows := rfl
@[simp] theorem State.setStaging_target (m : Memory) : (s.setStaging m).target = s.target := rfl
@[simp] theorem State.setStaging_link (m : Memory) : (s.setStaging m).link = s.link := rfl
@[simp] theorem State.setStaging_peers (m : Memory) : (s.setStaging m).peers = s.peers := rfl
@[simp] theorem State.setStaging_controller (m : Memory) : (s.setStaging m).controller = s.controller := rfl
@[simp] theorem State.setStaging_completions (m : Memory) : (s.setStaging m).completions = s.completions := rfl
@[simp] theorem State.setStaging_notices (m : Memory) : (s.setStaging m).notices = s.notices := rfl
@[simp] theorem State.setStaging_hostPort (m : Memory) : (s.setStaging m).hostPort = s.hostPort := rfl
@[simp] theorem State.setStaging_pending (m : Memory) : (s.setStaging m).pending = s.pending := rfl

/-! ### `State.onResponder` -/

@[simp] theorem State.onResponder_requester (f : Responder → Responder) : (s.onResponder f).requester = s.requester := rfl
@[simp] theorem State.onResponder_staging (f : Responder → Responder) : (s.onResponder f).staging = s.staging := rfl
@[simp] theorem State.onResponder_responder (f : Responder → Responder) : (s.onResponder f).responder = f s.responder := rfl
@[simp] theorem State.onResponder_windows (f : Responder → Responder) : (s.onResponder f).windows = s.windows := rfl
@[simp] theorem State.onResponder_target (f : Responder → Responder) : (s.onResponder f).target = s.target := rfl
@[simp] theorem State.onResponder_link (f : Responder → Responder) : (s.onResponder f).link = s.link := rfl
@[simp] theorem State.onResponder_peers (f : Responder → Responder) : (s.onResponder f).peers = s.peers := rfl
@[simp] theorem State.onResponder_controller (f : Responder → Responder) : (s.onResponder f).controller = s.controller := rfl
@[simp] theorem State.onResponder_completions (f : Responder → Responder) : (s.onResponder f).completions = s.completions := rfl
@[simp] theorem State.onResponder_notices (f : Responder → Responder) : (s.onResponder f).notices = s.notices := rfl
@[simp] theorem State.onResponder_hostPort (f : Responder → Responder) : (s.onResponder f).hostPort = s.hostPort := rfl
@[simp] theorem State.onResponder_pending (f : Responder → Responder) : (s.onResponder f).pending = s.pending := rfl

/-! ### `State.setWindows` -/

@[simp] theorem State.setWindows_requester (w : Vector WindowEntry 8) : (s.setWindows w).requester = s.requester := rfl
@[simp] theorem State.setWindows_staging (w : Vector WindowEntry 8) : (s.setWindows w).staging = s.staging := rfl
@[simp] theorem State.setWindows_responder (w : Vector WindowEntry 8) : (s.setWindows w).responder = s.responder := rfl
@[simp] theorem State.setWindows_windows (w : Vector WindowEntry 8) : (s.setWindows w).windows = w := rfl
@[simp] theorem State.setWindows_target (w : Vector WindowEntry 8) : (s.setWindows w).target = s.target := rfl
@[simp] theorem State.setWindows_link (w : Vector WindowEntry 8) : (s.setWindows w).link = s.link := rfl
@[simp] theorem State.setWindows_peers (w : Vector WindowEntry 8) : (s.setWindows w).peers = s.peers := rfl
@[simp] theorem State.setWindows_controller (w : Vector WindowEntry 8) : (s.setWindows w).controller = s.controller := rfl
@[simp] theorem State.setWindows_completions (w : Vector WindowEntry 8) : (s.setWindows w).completions = s.completions := rfl
@[simp] theorem State.setWindows_notices (w : Vector WindowEntry 8) : (s.setWindows w).notices = s.notices := rfl
@[simp] theorem State.setWindows_hostPort (w : Vector WindowEntry 8) : (s.setWindows w).hostPort = s.hostPort := rfl
@[simp] theorem State.setWindows_pending (w : Vector WindowEntry 8) : (s.setWindows w).pending = s.pending := rfl

/-! ### `State.onTarget` -/

@[simp] theorem State.onTarget_requester (f : TargetBus → TargetBus) : (s.onTarget f).requester = s.requester := rfl
@[simp] theorem State.onTarget_staging (f : TargetBus → TargetBus) : (s.onTarget f).staging = s.staging := rfl
@[simp] theorem State.onTarget_responder (f : TargetBus → TargetBus) : (s.onTarget f).responder = s.responder := rfl
@[simp] theorem State.onTarget_windows (f : TargetBus → TargetBus) : (s.onTarget f).windows = s.windows := rfl
@[simp] theorem State.onTarget_target (f : TargetBus → TargetBus) : (s.onTarget f).target = f s.target := rfl
@[simp] theorem State.onTarget_link (f : TargetBus → TargetBus) : (s.onTarget f).link = s.link := rfl
@[simp] theorem State.onTarget_peers (f : TargetBus → TargetBus) : (s.onTarget f).peers = s.peers := rfl
@[simp] theorem State.onTarget_controller (f : TargetBus → TargetBus) : (s.onTarget f).controller = s.controller := rfl
@[simp] theorem State.onTarget_completions (f : TargetBus → TargetBus) : (s.onTarget f).completions = s.completions := rfl
@[simp] theorem State.onTarget_notices (f : TargetBus → TargetBus) : (s.onTarget f).notices = s.notices := rfl
@[simp] theorem State.onTarget_hostPort (f : TargetBus → TargetBus) : (s.onTarget f).hostPort = s.hostPort := rfl
@[simp] theorem State.onTarget_pending (f : TargetBus → TargetBus) : (s.onTarget f).pending = s.pending := rfl

/-! ### `State.onLink` -/

@[simp] theorem State.onLink_requester (f : Link → Link) : (s.onLink f).requester = s.requester := rfl
@[simp] theorem State.onLink_staging (f : Link → Link) : (s.onLink f).staging = s.staging := rfl
@[simp] theorem State.onLink_responder (f : Link → Link) : (s.onLink f).responder = s.responder := rfl
@[simp] theorem State.onLink_windows (f : Link → Link) : (s.onLink f).windows = s.windows := rfl
@[simp] theorem State.onLink_target (f : Link → Link) : (s.onLink f).target = s.target := rfl
@[simp] theorem State.onLink_link (f : Link → Link) : (s.onLink f).link = f s.link := rfl
@[simp] theorem State.onLink_peers (f : Link → Link) : (s.onLink f).peers = s.peers := rfl
@[simp] theorem State.onLink_controller (f : Link → Link) : (s.onLink f).controller = s.controller := rfl
@[simp] theorem State.onLink_completions (f : Link → Link) : (s.onLink f).completions = s.completions := rfl
@[simp] theorem State.onLink_notices (f : Link → Link) : (s.onLink f).notices = s.notices := rfl
@[simp] theorem State.onLink_hostPort (f : Link → Link) : (s.onLink f).hostPort = s.hostPort := rfl
@[simp] theorem State.onLink_pending (f : Link → Link) : (s.onLink f).pending = s.pending := rfl

/-! ### `State.setPeers` -/

@[simp] theorem State.setPeers_requester (p : Vector PeerRecord 32) : (s.setPeers p).requester = s.requester := rfl
@[simp] theorem State.setPeers_staging (p : Vector PeerRecord 32) : (s.setPeers p).staging = s.staging := rfl
@[simp] theorem State.setPeers_responder (p : Vector PeerRecord 32) : (s.setPeers p).responder = s.responder := rfl
@[simp] theorem State.setPeers_windows (p : Vector PeerRecord 32) : (s.setPeers p).windows = s.windows := rfl
@[simp] theorem State.setPeers_target (p : Vector PeerRecord 32) : (s.setPeers p).target = s.target := rfl
@[simp] theorem State.setPeers_link (p : Vector PeerRecord 32) : (s.setPeers p).link = s.link := rfl
@[simp] theorem State.setPeers_peers (p : Vector PeerRecord 32) : (s.setPeers p).peers = p := rfl
@[simp] theorem State.setPeers_controller (p : Vector PeerRecord 32) : (s.setPeers p).controller = s.controller := rfl
@[simp] theorem State.setPeers_completions (p : Vector PeerRecord 32) : (s.setPeers p).completions = s.completions := rfl
@[simp] theorem State.setPeers_notices (p : Vector PeerRecord 32) : (s.setPeers p).notices = s.notices := rfl
@[simp] theorem State.setPeers_hostPort (p : Vector PeerRecord 32) : (s.setPeers p).hostPort = s.hostPort := rfl
@[simp] theorem State.setPeers_pending (p : Vector PeerRecord 32) : (s.setPeers p).pending = s.pending := rfl

/-! ### `State.onController` -/

@[simp] theorem State.onController_requester (f : Controller → Controller) : (s.onController f).requester = s.requester := rfl
@[simp] theorem State.onController_staging (f : Controller → Controller) : (s.onController f).staging = s.staging := rfl
@[simp] theorem State.onController_responder (f : Controller → Controller) : (s.onController f).responder = s.responder := rfl
@[simp] theorem State.onController_windows (f : Controller → Controller) : (s.onController f).windows = s.windows := rfl
@[simp] theorem State.onController_target (f : Controller → Controller) : (s.onController f).target = s.target := rfl
@[simp] theorem State.onController_link (f : Controller → Controller) : (s.onController f).link = s.link := rfl
@[simp] theorem State.onController_peers (f : Controller → Controller) : (s.onController f).peers = s.peers := rfl
@[simp] theorem State.onController_controller (f : Controller → Controller) : (s.onController f).controller = f s.controller := rfl
@[simp] theorem State.onController_completions (f : Controller → Controller) : (s.onController f).completions = s.completions := rfl
@[simp] theorem State.onController_notices (f : Controller → Controller) : (s.onController f).notices = s.notices := rfl
@[simp] theorem State.onController_hostPort (f : Controller → Controller) : (s.onController f).hostPort = s.hostPort := rfl
@[simp] theorem State.onController_pending (f : Controller → Controller) : (s.onController f).pending = s.pending := rfl

/-! ### `State.onCompletions` -/

@[simp] theorem State.onCompletions_requester (f : Completions → Completions) : (s.onCompletions f).requester = s.requester := rfl
@[simp] theorem State.onCompletions_staging (f : Completions → Completions) : (s.onCompletions f).staging = s.staging := rfl
@[simp] theorem State.onCompletions_responder (f : Completions → Completions) : (s.onCompletions f).responder = s.responder := rfl
@[simp] theorem State.onCompletions_windows (f : Completions → Completions) : (s.onCompletions f).windows = s.windows := rfl
@[simp] theorem State.onCompletions_target (f : Completions → Completions) : (s.onCompletions f).target = s.target := rfl
@[simp] theorem State.onCompletions_link (f : Completions → Completions) : (s.onCompletions f).link = s.link := rfl
@[simp] theorem State.onCompletions_peers (f : Completions → Completions) : (s.onCompletions f).peers = s.peers := rfl
@[simp] theorem State.onCompletions_controller (f : Completions → Completions) : (s.onCompletions f).controller = s.controller := rfl
@[simp] theorem State.onCompletions_completions (f : Completions → Completions) : (s.onCompletions f).completions = f s.completions := rfl
@[simp] theorem State.onCompletions_notices (f : Completions → Completions) : (s.onCompletions f).notices = s.notices := rfl
@[simp] theorem State.onCompletions_hostPort (f : Completions → Completions) : (s.onCompletions f).hostPort = s.hostPort := rfl
@[simp] theorem State.onCompletions_pending (f : Completions → Completions) : (s.onCompletions f).pending = s.pending := rfl

/-! ### `State.onNotices` -/

@[simp] theorem State.onNotices_requester (f : Notices → Notices) : (s.onNotices f).requester = s.requester := rfl
@[simp] theorem State.onNotices_staging (f : Notices → Notices) : (s.onNotices f).staging = s.staging := rfl
@[simp] theorem State.onNotices_responder (f : Notices → Notices) : (s.onNotices f).responder = s.responder := rfl
@[simp] theorem State.onNotices_windows (f : Notices → Notices) : (s.onNotices f).windows = s.windows := rfl
@[simp] theorem State.onNotices_target (f : Notices → Notices) : (s.onNotices f).target = s.target := rfl
@[simp] theorem State.onNotices_link (f : Notices → Notices) : (s.onNotices f).link = s.link := rfl
@[simp] theorem State.onNotices_peers (f : Notices → Notices) : (s.onNotices f).peers = s.peers := rfl
@[simp] theorem State.onNotices_controller (f : Notices → Notices) : (s.onNotices f).controller = s.controller := rfl
@[simp] theorem State.onNotices_completions (f : Notices → Notices) : (s.onNotices f).completions = s.completions := rfl
@[simp] theorem State.onNotices_notices (f : Notices → Notices) : (s.onNotices f).notices = f s.notices := rfl
@[simp] theorem State.onNotices_hostPort (f : Notices → Notices) : (s.onNotices f).hostPort = s.hostPort := rfl
@[simp] theorem State.onNotices_pending (f : Notices → Notices) : (s.onNotices f).pending = s.pending := rfl

/-! ### `State.onHost` -/

@[simp] theorem State.onHost_requester (f : HostPort → HostPort) : (s.onHost f).requester = s.requester := rfl
@[simp] theorem State.onHost_staging (f : HostPort → HostPort) : (s.onHost f).staging = s.staging := rfl
@[simp] theorem State.onHost_responder (f : HostPort → HostPort) : (s.onHost f).responder = s.responder := rfl
@[simp] theorem State.onHost_windows (f : HostPort → HostPort) : (s.onHost f).windows = s.windows := rfl
@[simp] theorem State.onHost_target (f : HostPort → HostPort) : (s.onHost f).target = s.target := rfl
@[simp] theorem State.onHost_link (f : HostPort → HostPort) : (s.onHost f).link = s.link := rfl
@[simp] theorem State.onHost_peers (f : HostPort → HostPort) : (s.onHost f).peers = s.peers := rfl
@[simp] theorem State.onHost_controller (f : HostPort → HostPort) : (s.onHost f).controller = s.controller := rfl
@[simp] theorem State.onHost_completions (f : HostPort → HostPort) : (s.onHost f).completions = s.completions := rfl
@[simp] theorem State.onHost_notices (f : HostPort → HostPort) : (s.onHost f).notices = s.notices := rfl
@[simp] theorem State.onHost_hostPort (f : HostPort → HostPort) : (s.onHost f).hostPort = f s.hostPort := rfl
@[simp] theorem State.onHost_pending (f : HostPort → HostPort) : (s.onHost f).pending = s.pending := rfl

/-! ### `State.setPending` -/

@[simp] theorem State.setPending_requester (q : List Instr) : (s.setPending q).requester = s.requester := rfl
@[simp] theorem State.setPending_staging (q : List Instr) : (s.setPending q).staging = s.staging := rfl
@[simp] theorem State.setPending_responder (q : List Instr) : (s.setPending q).responder = s.responder := rfl
@[simp] theorem State.setPending_windows (q : List Instr) : (s.setPending q).windows = s.windows := rfl
@[simp] theorem State.setPending_target (q : List Instr) : (s.setPending q).target = s.target := rfl
@[simp] theorem State.setPending_link (q : List Instr) : (s.setPending q).link = s.link := rfl
@[simp] theorem State.setPending_peers (q : List Instr) : (s.setPending q).peers = s.peers := rfl
@[simp] theorem State.setPending_controller (q : List Instr) : (s.setPending q).controller = s.controller := rfl
@[simp] theorem State.setPending_completions (q : List Instr) : (s.setPending q).completions = s.completions := rfl
@[simp] theorem State.setPending_notices (q : List Instr) : (s.setPending q).notices = s.notices := rfl
@[simp] theorem State.setPending_hostPort (q : List Instr) : (s.setPending q).hostPort = s.hostPort := rfl
@[simp] theorem State.setPending_pending (q : List Instr) : (s.setPending q).pending = q := rfl

end Sys2Proof.Machine
end

