-- ==== Sys2Proof/Laws/Ops.lean ====
section
/-! SUPPORT. What the operations every block shares leave alone: for each operation one lemma naming every block it does not change. -/

namespace Sys2Proof.Machine

variable (s : State)

@[simp] theorem State.withResult_frame (r : CommandResult) :
    (s.withResult r).requester = s.requester ∧ (s.withResult r).staging = s.staging ∧
    (s.withResult r).responder = s.responder ∧ (s.withResult r).windows = s.windows ∧
    (s.withResult r).target = s.target ∧ (s.withResult r).link = s.link ∧ (s.withResult r).peers = s.peers ∧
    (s.withResult r).controller = s.controller ∧ (s.withResult r).completions = s.completions ∧
    (s.withResult r).notices = s.notices ∧ (s.withResult r).pending = s.pending := by
  simp [State.withResult]

@[simp] theorem State.post_frame (n : Notice) :
    (s.post n).requester = s.requester ∧ (s.post n).staging = s.staging ∧ (s.post n).responder = s.responder ∧
    (s.post n).windows = s.windows ∧ (s.post n).target = s.target ∧ (s.post n).link = s.link ∧
    (s.post n).peers = s.peers ∧ (s.post n).controller = s.controller ∧ (s.post n).completions = s.completions ∧
    (s.post n).hostPort = s.hostPort ∧ (s.post n).pending = s.pending := by
  simp [State.post]

@[simp] theorem State.enter_frame (st : StationState) :
    (s.enter st).requester = s.requester ∧ (s.enter st).staging = s.staging ∧ (s.enter st).responder = s.responder ∧
    (s.enter st).windows = s.windows ∧ (s.enter st).target = s.target ∧ (s.enter st).link = s.link ∧
    (s.enter st).peers = s.peers ∧ (s.enter st).completions = s.completions ∧ (s.enter st).notices = s.notices ∧
    (s.enter st).hostPort = s.hostPort ∧ (s.enter st).pending = s.pending := by
  simp [State.enter]

@[simp] theorem State.emptyTransmit_frame :
    (s.emptyTransmit).requester = s.requester ∧ (s.emptyTransmit).staging = s.staging ∧
    (s.emptyTransmit).responder = s.responder ∧ (s.emptyTransmit).windows = s.windows ∧
    (s.emptyTransmit).target = s.target ∧ (s.emptyTransmit).peers = s.peers ∧
    (s.emptyTransmit).controller = s.controller ∧ (s.emptyTransmit).completions = s.completions ∧
    (s.emptyTransmit).notices = s.notices ∧ (s.emptyTransmit).hostPort = s.hostPort ∧
    (s.emptyTransmit).pending = s.pending := by
  simp [State.emptyTransmit]

@[simp] theorem State.emptyAnswer_frame :
    (s.emptyAnswer).requester = s.requester ∧ (s.emptyAnswer).staging = s.staging ∧
    (s.emptyAnswer).responder = s.responder ∧ (s.emptyAnswer).windows = s.windows ∧
    (s.emptyAnswer).target = s.target ∧ (s.emptyAnswer).peers = s.peers ∧ (s.emptyAnswer).controller = s.controller ∧
    (s.emptyAnswer).completions = s.completions ∧ (s.emptyAnswer).notices = s.notices ∧
    (s.emptyAnswer).hostPort = s.hostPort ∧ (s.emptyAnswer).pending = s.pending := by
  simp [State.emptyAnswer]

@[simp] theorem State.placeAnswer_frame (a : Answer) :
    (s.placeAnswer a).requester = s.requester ∧ (s.placeAnswer a).staging = s.staging ∧
    (s.placeAnswer a).responder = s.responder ∧ (s.placeAnswer a).windows = s.windows ∧
    (s.placeAnswer a).target = s.target ∧ (s.placeAnswer a).peers = s.peers ∧
    (s.placeAnswer a).controller = s.controller ∧ (s.placeAnswer a).completions = s.completions ∧
    (s.placeAnswer a).notices = s.notices ∧ (s.placeAnswer a).hostPort = s.hostPort ∧
    (s.placeAnswer a).pending = s.pending := by
  simp [State.placeAnswer]

@[simp] theorem State.queueBeacon_frame (p : PendingBeacon) :
    (s.queueBeacon p).requester = s.requester ∧ (s.queueBeacon p).staging = s.staging ∧
    (s.queueBeacon p).responder = s.responder ∧ (s.queueBeacon p).windows = s.windows ∧
    (s.queueBeacon p).target = s.target ∧ (s.queueBeacon p).peers = s.peers ∧
    (s.queueBeacon p).completions = s.completions ∧ (s.queueBeacon p).notices = s.notices ∧
    (s.queueBeacon p).hostPort = s.hostPort ∧ (s.queueBeacon p).pending = s.pending := by
  unfold State.queueBeacon
  (repeat' split) <;> simp

@[simp] theorem State.dropPendingBeacon_frame :
    (s.dropPendingBeacon).requester = s.requester ∧ (s.dropPendingBeacon).staging = s.staging ∧
    (s.dropPendingBeacon).responder = s.responder ∧ (s.dropPendingBeacon).windows = s.windows ∧
    (s.dropPendingBeacon).target = s.target ∧ (s.dropPendingBeacon).link = s.link ∧
    (s.dropPendingBeacon).peers = s.peers ∧ (s.dropPendingBeacon).completions = s.completions ∧
    (s.dropPendingBeacon).notices = s.notices ∧ (s.dropPendingBeacon).hostPort = s.hostPort ∧
    (s.dropPendingBeacon).pending = s.pending := by
  simp [State.dropPendingBeacon]

@[simp] theorem State.linkOff_frame :
    (s.linkOff).requester = s.requester ∧ (s.linkOff).staging = s.staging ∧ (s.linkOff).responder = s.responder ∧
    (s.linkOff).windows = s.windows ∧ (s.linkOff).target = s.target ∧ (s.linkOff).peers = s.peers ∧
    (s.linkOff).controller = s.controller ∧ (s.linkOff).completions = s.completions ∧
    (s.linkOff).notices = s.notices ∧ (s.linkOff).hostPort = s.hostPort ∧ (s.linkOff).pending = s.pending := by
  simp [State.linkOff]

@[simp] theorem State.clearPeers_frame :
    (s.clearPeers).requester = s.requester ∧ (s.clearPeers).staging = s.staging ∧
    (s.clearPeers).responder = s.responder ∧ (s.clearPeers).windows = s.windows ∧ (s.clearPeers).target = s.target ∧
    (s.clearPeers).link = s.link ∧ (s.clearPeers).controller = s.controller ∧
    (s.clearPeers).completions = s.completions ∧ (s.clearPeers).notices = s.notices ∧
    (s.clearPeers).hostPort = s.hostPort ∧ (s.clearPeers).pending = s.pending := by
  simp [State.clearPeers]

@[simp] theorem State.unlock_frame :
    (s.unlock).requester = s.requester ∧ (s.unlock).staging = s.staging ∧ (s.unlock).responder = s.responder ∧
    (s.unlock).windows = s.windows ∧ (s.unlock).target = s.target ∧ (s.unlock).peers = s.peers ∧
    (s.unlock).completions = s.completions ∧ (s.unlock).notices = s.notices ∧ (s.unlock).hostPort = s.hostPort ∧
    (s.unlock).pending = s.pending := by
  simp [State.unlock]

/-- With RESETN released a host access has its effect. -/
theorem State.hostTakes_of_released {s : State} (h : s.hostPort.resetAsserted = false) (t : State) :
    s.hostTakes t = Host.Outcome.next t := by
  simp [State.hostTakes, h]

/-- While RESETN is asserted a host access changes nothing. -/
theorem State.hostTakes_of_asserted {s : State} (h : s.hostPort.resetAsserted = true) (t : State) :
    s.hostTakes t = Host.Outcome.next s := by
  simp [State.hostTakes, h]

/-- All a host access can answer: its effect with RESETN released, and the state it met with RESETN asserted. -/
theorem State.hostTakes_cases {s t u : State} (h : s.hostTakes t = Host.Outcome.next u) :
    s.hostPort.resetAsserted = false ∧ u = t ∨ s.hostPort.resetAsserted = true ∧ u = s := by
  cases r : s.hostPort.resetAsserted
  · rw [State.hostTakes_of_released r] at h
    cases h
    exact .inl ⟨rfl, rfl⟩
  · rw [State.hostTakes_of_asserted r] at h
    cases h
    exact .inr ⟨rfl, rfl⟩

end Sys2Proof.Machine
end

