-- ==== Sys2Proof/Laws/Slots.lean ====
section
/-! SUPPORT. What the requester's operations over its slots leave alone: for each operation one lemma naming every block it does not change. -/

namespace Sys2Proof.Machine

variable (s : State)

@[simp] theorem State.setSlot_frame (i : Tag) (x : Slot) :
    (s.setSlot i x).staging = s.staging ∧ (s.setSlot i x).responder = s.responder ∧
    (s.setSlot i x).windows = s.windows ∧ (s.setSlot i x).target = s.target ∧ (s.setSlot i x).link = s.link ∧
    (s.setSlot i x).peers = s.peers ∧ (s.setSlot i x).controller = s.controller ∧
    (s.setSlot i x).completions = s.completions ∧ (s.setSlot i x).notices = s.notices ∧
    (s.setSlot i x).hostPort = s.hostPort ∧ (s.setSlot i x).pending = s.pending := by
  simp [State.setSlot]

@[simp] theorem State.setSlotState_frame (i : Tag) (st : SlotState) :
    (s.setSlotState i st).staging = s.staging ∧ (s.setSlotState i st).responder = s.responder ∧
    (s.setSlotState i st).windows = s.windows ∧ (s.setSlotState i st).target = s.target ∧
    (s.setSlotState i st).link = s.link ∧ (s.setSlotState i st).peers = s.peers ∧
    (s.setSlotState i st).controller = s.controller ∧ (s.setSlotState i st).completions = s.completions ∧
    (s.setSlotState i st).notices = s.notices ∧ (s.setSlotState i st).hostPort = s.hostPort ∧
    (s.setSlotState i st).pending = s.pending := by
  simp [State.setSlotState]

@[simp] theorem State.finishSlot_frame (i : Tag) (st : Status) :
    (s.finishSlot i st).staging = s.staging ∧ (s.finishSlot i st).responder = s.responder ∧
    (s.finishSlot i st).windows = s.windows ∧ (s.finishSlot i st).target = s.target ∧
    (s.finishSlot i st).link = s.link ∧ (s.finishSlot i st).peers = s.peers ∧
    (s.finishSlot i st).controller = s.controller ∧ (s.finishSlot i st).completions = s.completions ∧
    (s.finishSlot i st).notices = s.notices ∧ (s.finishSlot i st).hostPort = s.hostPort ∧
    (s.finishSlot i st).pending = s.pending := by
  simp [State.finishSlot]

@[simp] theorem State.releaseBehind_frame (n : Nat) (d : StationNo) :
    (State.releaseBehind n d s).staging = s.staging ∧ (State.releaseBehind n d s).responder = s.responder ∧
    (State.releaseBehind n d s).windows = s.windows ∧ (State.releaseBehind n d s).target = s.target ∧
    (State.releaseBehind n d s).link = s.link ∧ (State.releaseBehind n d s).peers = s.peers ∧
    (State.releaseBehind n d s).controller = s.controller ∧ (State.releaseBehind n d s).completions = s.completions ∧
    (State.releaseBehind n d s).notices = s.notices ∧ (State.releaseBehind n d s).hostPort = s.hostPort ∧
    (State.releaseBehind n d s).pending = s.pending := by
  induction n generalizing s with
  | zero => simp [State.releaseBehind]
  | succ n ih =>
    unfold State.releaseBehind
    (repeat' split) <;> simp [ih]

@[simp] theorem State.endSlot_frame (i : Tag) (st : Status) :
    (s.endSlot i st).staging = s.staging ∧ (s.endSlot i st).responder = s.responder ∧
    (s.endSlot i st).windows = s.windows ∧ (s.endSlot i st).target = s.target ∧ (s.endSlot i st).link = s.link ∧
    (s.endSlot i st).peers = s.peers ∧ (s.endSlot i st).controller = s.controller ∧
    (s.endSlot i st).completions = s.completions ∧ (s.endSlot i st).notices = s.notices ∧
    (s.endSlot i st).hostPort = s.hostPort ∧ (s.endSlot i st).pending = s.pending := by
  simp [State.endSlot]

@[simp] theorem State.endSlots_frame (which : Tag → Bool) (st : Status) :
    (s.endSlots which st).staging = s.staging ∧ (s.endSlots which st).responder = s.responder ∧
    (s.endSlots which st).windows = s.windows ∧ (s.endSlots which st).target = s.target ∧
    (s.endSlots which st).link = s.link ∧ (s.endSlots which st).peers = s.peers ∧
    (s.endSlots which st).controller = s.controller ∧ (s.endSlots which st).completions = s.completions ∧
    (s.endSlots which st).notices = s.notices ∧ (s.endSlots which st).hostPort = s.hostPort ∧
    (s.endSlots which st).pending = s.pending := by
  simp [State.endSlots]

@[simp] theorem State.markSlots_frame (which : Tag → Bool) (f : Slot → Slot) :
    (s.markSlots which f).staging = s.staging ∧ (s.markSlots which f).responder = s.responder ∧
    (s.markSlots which f).windows = s.windows ∧ (s.markSlots which f).target = s.target ∧
    (s.markSlots which f).link = s.link ∧ (s.markSlots which f).peers = s.peers ∧
    (s.markSlots which f).controller = s.controller ∧ (s.markSlots which f).completions = s.completions ∧
    (s.markSlots which f).notices = s.notices ∧ (s.markSlots which f).hostPort = s.hostPort ∧
    (s.markSlots which f).pending = s.pending := by
  simp [State.markSlots]

@[simp] theorem State.withdraw_frame (i : Tag) :
    (s.withdraw i).requester = s.requester ∧ (s.withdraw i).staging = s.staging ∧
    (s.withdraw i).responder = s.responder ∧ (s.withdraw i).windows = s.windows ∧ (s.withdraw i).target = s.target ∧
    (s.withdraw i).peers = s.peers ∧ (s.withdraw i).controller = s.controller ∧
    (s.withdraw i).completions = s.completions ∧ (s.withdraw i).notices = s.notices ∧
    (s.withdraw i).hostPort = s.hostPort ∧ (s.withdraw i).pending = s.pending := by
  unfold State.withdraw
  (repeat' split) <;> simp

@[simp] theorem State.withdrawSegment_frame :
    (s.withdrawSegment).requester = s.requester ∧ (s.withdrawSegment).staging = s.staging ∧
    (s.withdrawSegment).responder = s.responder ∧ (s.withdrawSegment).windows = s.windows ∧
    (s.withdrawSegment).target = s.target ∧ (s.withdrawSegment).peers = s.peers ∧
    (s.withdrawSegment).controller = s.controller ∧ (s.withdrawSegment).completions = s.completions ∧
    (s.withdrawSegment).notices = s.notices ∧ (s.withdrawSegment).hostPort = s.hostPort ∧
    (s.withdrawSegment).pending = s.pending := by
  unfold State.withdrawSegment
  (repeat' split) <;> simp

@[simp] theorem State.placeSlot_frame (i : Tag) :
    (s.placeSlot i).staging = s.staging ∧ (s.placeSlot i).responder = s.responder ∧
    (s.placeSlot i).windows = s.windows ∧ (s.placeSlot i).target = s.target ∧ (s.placeSlot i).link = s.link ∧
    (s.placeSlot i).peers = s.peers ∧ (s.placeSlot i).controller = s.controller ∧
    (s.placeSlot i).completions = s.completions ∧ (s.placeSlot i).notices = s.notices ∧
    (s.placeSlot i).hostPort = s.hostPort ∧ (s.placeSlot i).pending = s.pending := by
  unfold State.placeSlot
  (repeat' split) <;> simp

@[simp] theorem State.takeCourse_frame (i : Tag) (c : Course) :
    (s.takeCourse i c).staging = s.staging ∧ (s.takeCourse i c).responder = s.responder ∧
    (s.takeCourse i c).windows = s.windows ∧ (s.takeCourse i c).target = s.target ∧ (s.takeCourse i c).link = s.link ∧
    (s.takeCourse i c).peers = s.peers ∧ (s.takeCourse i c).controller = s.controller ∧
    (s.takeCourse i c).completions = s.completions ∧ (s.takeCourse i c).notices = s.notices ∧
    (s.takeCourse i c).hostPort = s.hostPort ∧ (s.takeCourse i c).pending = s.pending := by
  unfold State.takeCourse
  (repeat' split) <;> simp

@[simp] theorem State.closeExchange_frame (i : Tag) (c : Course) :
    (s.closeExchange i c).staging = s.staging ∧ (s.closeExchange i c).responder = s.responder ∧
    (s.closeExchange i c).windows = s.windows ∧ (s.closeExchange i c).target = s.target ∧
    (s.closeExchange i c).link = s.link ∧ (s.closeExchange i c).peers = s.peers ∧
    (s.closeExchange i c).controller = s.controller ∧ (s.closeExchange i c).completions = s.completions ∧
    (s.closeExchange i c).notices = s.notices ∧ (s.closeExchange i c).hostPort = s.hostPort ∧
    (s.closeExchange i c).pending = s.pending := by
  unfold State.closeExchange
  (repeat' split) <;> simp

@[simp] theorem State.quietReaches_frame (i : Tag) (level : Urgency) :
    (s.quietReaches i level).staging = s.staging ∧ (s.quietReaches i level).responder = s.responder ∧
    (s.quietReaches i level).windows = s.windows ∧ (s.quietReaches i level).target = s.target ∧
    (s.quietReaches i level).peers = s.peers ∧ (s.quietReaches i level).controller = s.controller ∧
    (s.quietReaches i level).completions = s.completions ∧ (s.quietReaches i level).notices = s.notices ∧
    (s.quietReaches i level).hostPort = s.hostPort ∧ (s.quietReaches i level).pending = s.pending := by
  unfold State.quietReaches
  (repeat' split) <;> simp

@[simp] theorem State.endingReaches_frame (i : Tag) (d : Deferred) :
    (s.endingReaches i d).staging = s.staging ∧ (s.endingReaches i d).responder = s.responder ∧
    (s.endingReaches i d).windows = s.windows ∧ (s.endingReaches i d).target = s.target ∧
    (s.endingReaches i d).peers = s.peers ∧ (s.endingReaches i d).controller = s.controller ∧
    (s.endingReaches i d).completions = s.completions ∧ (s.endingReaches i d).notices = s.notices ∧
    (s.endingReaches i d).hostPort = s.hostPort ∧ (s.endingReaches i d).pending = s.pending := by
  unfold State.endingReaches
  (repeat' split) <;> simp

@[simp] theorem State.deliverTransition_frame (d : StationNo) (before after : PeerState) :
    (s.deliverTransition d before after).staging = s.staging ∧
    (s.deliverTransition d before after).responder = s.responder ∧
    (s.deliverTransition d before after).windows = s.windows ∧
    (s.deliverTransition d before after).target = s.target ∧ (s.deliverTransition d before after).peers = s.peers ∧
    (s.deliverTransition d before after).controller = s.controller ∧
    (s.deliverTransition d before after).completions = s.completions ∧
    (s.deliverTransition d before after).notices = s.notices ∧
    (s.deliverTransition d before after).hostPort = s.hostPort ∧
    (s.deliverTransition d before after).pending = s.pending := by
  unfold State.deliverTransition
  (repeat' split) <;> simp

@[simp] theorem State.setQueue_frame (q : List Descriptor) :
    (s.setQueue q).staging = s.staging ∧ (s.setQueue q).responder = s.responder ∧ (s.setQueue q).windows = s.windows ∧
    (s.setQueue q).target = s.target ∧ (s.setQueue q).link = s.link ∧ (s.setQueue q).peers = s.peers ∧
    (s.setQueue q).controller = s.controller ∧ (s.setQueue q).completions = s.completions ∧
    (s.setQueue q).notices = s.notices ∧ (s.setQueue q).hostPort = s.hostPort ∧ (s.setQueue q).pending = s.pending := by
  simp [State.setQueue]

/-! ### One slot after an operation -/

/-- A slot is a matter of the requester alone. -/
theorem State.slot_congr {s t : State} (h : s.requester = t.requester) (i : Tag) : s.slot i = t.slot i := by
  simp [State.slot, h]

/-- What replacing a slot leaves in each slot. -/
theorem State.slot_setSlot (i j : Tag) (x : Slot) : (s.setSlot i x).slot j = if j = i then x else s.slot j := by
  simp only [State.slot, State.setSlot, State.onRequester_requester, Fin.getElem_fin, Vector.getElem_set]
  by_cases h : j = i
  · simp [h]
  · rw [if_neg h, if_neg fun e => h (Fin.ext e.symm)]

@[simp] theorem State.slot_setSlot_self (i : Tag) (x : Slot) : (s.setSlot i x).slot i = x := by
  simp [State.slot_setSlot]

/-- What putting a slot into a state leaves in each slot. -/
theorem State.slot_setSlotState (i j : Tag) (st : SlotState) :
    (s.setSlotState i st).slot j = if j = i then { s.slot i with state := st } else s.slot j := by
  simp [State.setSlotState, State.slot_setSlot]

/-- What making a slot DONE leaves in each slot. -/
theorem State.slot_finishSlot (i j : Tag) (st : Status) :
    (s.finishSlot i st).slot j =
      if j = i then { s.slot i with state := .done st s.requester.doneNext } else s.slot j := by
  rw [← State.slot_setSlotState]
  rfl

@[simp] theorem State.setQueue_slot (q : List Descriptor) (i : Tag) : (s.setQueue q).slot i = s.slot i := rfl

/-- What changing several slots leaves in each slot. -/
theorem State.slot_markSlots (which : Tag → Bool) (f : Slot → Slot) (i : Tag) :
    (s.markSlots which f).slot i = if which i then f (s.slot i) else s.slot i := by
  simp [State.slot, State.markSlots]

/-- Ending several slots leaves every slot's record but its state, and the other slots whole. -/
theorem State.slot_endSlots (which : Tag → Bool) (st : Status) (i : Tag) :
    (s.endSlots which st).slot i =
      if which i then
        { s.slot i with
          state := .done st
            (s.requester.doneNext + (List.finRange 8).countP fun j => which j && s.dispatchedBefore j i) }
      else s.slot i := by
  simp [State.slot, State.endSlots]

/-- The release of BEHIND slots changes nothing of a slot but its state, and that only from BEHIND on the destination
released; it keeps the queue, the drain, the fence wait and the dispatch sequence. -/
theorem State.releaseBehind_slot (n : Nat) (d : StationNo) (i : Tag) :
    (∃ st, (State.releaseBehind n d s).slot i = { s.slot i with state := st } ∧
      (st ≠ (s.slot i).state → (s.slot i).state = .behind ∧ (s.slot i).descriptor.destination = d)) ∧
    (State.releaseBehind n d s).requester.queue = s.requester.queue ∧
    (State.releaseBehind n d s).requester.drainCount = s.requester.drainCount ∧
    (State.releaseBehind n d s).requester.fenceWait = s.requester.fenceWait ∧
    (State.releaseBehind n d s).requester.dispatchSeq = s.requester.dispatchSeq := by
  induction n generalizing s with
  | zero => exact ⟨⟨(s.slot i).state, rfl, fun h => absurd rfl h⟩, rfl, rfl, rfl, rfl⟩
  | succ n ih =>
    unfold State.releaseBehind
    split
    · exact ⟨⟨(s.slot i).state, rfl, fun h => absurd rfl h⟩, rfl, rfl, rfl, rfl⟩
    · split
      · exact ⟨⟨(s.slot i).state, rfl, fun h => absurd rfl h⟩, rfl, rfl, rfl, rfl⟩
      · rename_i j hj
        have hb := bestOf_admitted hj
        have hj' : (s.slot j).state = .behind ∧ (s.slot j).descriptor.destination = d := by
          simp only [Bool.and_eq_true, beq_iff_eq] at hb
          refine ⟨?_, hb.2⟩
          have := hb.1
          cases h : (s.slot j).state <;> simp [SlotState.isBehind, h] at this ⊢
        have hset : ∀ st0 : SlotState,
            ∃ st, (s.setSlotState j st0).slot i = { s.slot i with state := st } ∧
              (st ≠ (s.slot i).state → (s.slot i).state = .behind ∧ (s.slot i).descriptor.destination = d) := by
          intro st0
          by_cases h : i = j
          · subst h
            exact ⟨st0, by simp [State.slot_setSlotState], fun _ => hj'⟩
          · exact ⟨(s.slot i).state, by simp [State.slot_setSlotState, h], fun e => absurd rfl e⟩
        split
        · exact ⟨hset _, rfl, rfl, rfl, rfl⟩
        · exact ⟨hset _, rfl, rfl, rfl, rfl⟩
        · rename_i st0 _
          obtain ⟨⟨st, h1, h2⟩, hq, hd, hf, hs⟩ := ih (s.finishSlot j st0)
          refine ⟨⟨st, ?_, ?_⟩, hq, hd, hf, hs⟩
          · rw [h1, State.slot_finishSlot]
            by_cases h : i = j
            · subst h; simp
            · simp [h]
          · intro hne
            by_cases h : i = j
            · subst h; exact hj'
            · rw [State.slot_finishSlot, if_neg h] at h2
              exact h2 hne

/-- Entry to DONE leaves every slot's record but its state; only the slot itself and BEHIND slots of its destination change
state. -/
theorem State.endSlot_slot (i j : Tag) (st : Status) :
    ∃ st', (s.endSlot i st).slot j = { s.slot j with state := st' } ∧
      (st' ≠ (s.slot j).state → j = i ∨
        ((s.slot j).state = .behind ∧ (s.slot j).descriptor.destination = (s.slot i).descriptor.destination)) := by
  obtain ⟨⟨st', h1, h2⟩, -⟩ := State.releaseBehind_slot (s.finishSlot i st) 8 (s.slot i).descriptor.destination j
  refine ⟨st', ?_, fun hne => ?_⟩
  · rw [State.endSlot, h1, State.slot_finishSlot]
    by_cases h : j = i
    · subst h; simp
    · simp [h]
  · by_cases h : j = i
    · exact .inl h
    · rw [State.slot_finishSlot, if_neg h] at h2
      exact .inr (h2 hne)

/-- The slot that becomes DONE is DONE with its status, at the done order's next place. -/
theorem State.endSlot_slot_self (i : Tag) (st : Status) :
    (s.endSlot i st).slot i = { s.slot i with state := .done st s.requester.doneNext } := by
  obtain ⟨⟨st', h1, h2⟩, -⟩ := State.releaseBehind_slot (s.finishSlot i st) 8 (s.slot i).descriptor.destination i
  rw [State.slot_finishSlot, if_pos rfl] at h1 h2
  rw [State.endSlot, h1]
  by_cases h : st' = .done st s.requester.doneNext
  · rw [h]
  · exact absurd (h2 h).1 (by simp)

end Sys2Proof.Machine
end

