-- ==== Sys2Proof/Laws/Peers.lean ====
section
/-! SUPPORT. What the peer monitor's operations leave alone: for each operation one lemma naming every block it does not change. -/

namespace Sys2Proof.Machine

variable (s : State)

@[simp] theorem State.setPeer_frame (d : StationNo) (p : PeerRecord) :
    (s.setPeer d p).requester = s.requester ∧ (s.setPeer d p).staging = s.staging ∧
    (s.setPeer d p).responder = s.responder ∧ (s.setPeer d p).windows = s.windows ∧
    (s.setPeer d p).target = s.target ∧ (s.setPeer d p).link = s.link ∧ (s.setPeer d p).controller = s.controller ∧
    (s.setPeer d p).completions = s.completions ∧ (s.setPeer d p).notices = s.notices ∧
    (s.setPeer d p).hostPort = s.hostPort ∧ (s.setPeer d p).pending = s.pending := by
  simp [State.setPeer]

@[simp] theorem State.peerHeard_frame (d : StationNo) :
    (s.peerHeard d).requester = s.requester ∧ (s.peerHeard d).staging = s.staging ∧
    (s.peerHeard d).responder = s.responder ∧ (s.peerHeard d).windows = s.windows ∧
    (s.peerHeard d).target = s.target ∧ (s.peerHeard d).link = s.link ∧ (s.peerHeard d).controller = s.controller ∧
    (s.peerHeard d).completions = s.completions ∧ (s.peerHeard d).notices = s.notices ∧
    (s.peerHeard d).hostPort = s.hostPort ∧ (s.peerHeard d).pending = s.pending := by
  simp [State.peerHeard]

@[simp] theorem State.peerBecomes_frame (d : StationNo) (after : PeerState) :
    (s.peerBecomes d after).staging = s.staging ∧ (s.peerBecomes d after).responder = s.responder ∧
    (s.peerBecomes d after).windows = s.windows ∧ (s.peerBecomes d after).target = s.target ∧
    (s.peerBecomes d after).controller = s.controller ∧ (s.peerBecomes d after).completions = s.completions ∧
    (s.peerBecomes d after).hostPort = s.hostPort ∧ (s.peerBecomes d after).pending = s.pending := by
  unfold State.peerBecomes
  dsimp only
  (repeat' split) <;> simp

@[simp] theorem State.hearFrame_frame (d : StationNo) :
    (s.hearFrame d).staging = s.staging ∧ (s.hearFrame d).responder = s.responder ∧
    (s.hearFrame d).windows = s.windows ∧ (s.hearFrame d).target = s.target ∧
    (s.hearFrame d).controller = s.controller ∧ (s.hearFrame d).completions = s.completions ∧
    (s.hearFrame d).hostPort = s.hostPort ∧ (s.hearFrame d).pending = s.pending := by
  unfold State.hearFrame
  (repeat' split) <;> simp

@[simp] theorem State.hearBeacon_frame (b : Beacon) :
    (s.hearBeacon b).staging = s.staging ∧ (s.hearBeacon b).responder = s.responder ∧
    (s.hearBeacon b).windows = s.windows ∧ (s.hearBeacon b).target = s.target ∧
    (s.hearBeacon b).controller = s.controller ∧ (s.hearBeacon b).completions = s.completions ∧
    (s.hearBeacon b).hostPort = s.hostPort ∧ (s.hearBeacon b).pending = s.pending := by
  unfold State.hearBeacon
  (repeat' split) <;> simp

@[simp] theorem State.agePeers_frame :
    (s.agePeers).requester = s.requester ∧ (s.agePeers).staging = s.staging ∧ (s.agePeers).responder = s.responder ∧
    (s.agePeers).windows = s.windows ∧ (s.agePeers).target = s.target ∧ (s.agePeers).link = s.link ∧
    (s.agePeers).controller = s.controller ∧ (s.agePeers).completions = s.completions ∧
    (s.agePeers).notices = s.notices ∧ (s.agePeers).hostPort = s.hostPort ∧ (s.agePeers).pending = s.pending := by
  simp [State.agePeers]

@[simp] theorem State.silenceOne_frame :
    (s.silenceOne).staging = s.staging ∧ (s.silenceOne).responder = s.responder ∧ (s.silenceOne).windows = s.windows ∧
    (s.silenceOne).target = s.target ∧ (s.silenceOne).controller = s.controller ∧
    (s.silenceOne).completions = s.completions ∧ (s.silenceOne).hostPort = s.hostPort ∧
    (s.silenceOne).pending = s.pending := by
  unfold State.silenceOne
  (repeat' split) <;> simp

@[simp] theorem State.silenceAll_frame (n : Nat) :
    (State.silenceAll n s).staging = s.staging ∧ (State.silenceAll n s).responder = s.responder ∧
    (State.silenceAll n s).windows = s.windows ∧ (State.silenceAll n s).target = s.target ∧
    (State.silenceAll n s).controller = s.controller ∧ (State.silenceAll n s).completions = s.completions ∧
    (State.silenceAll n s).hostPort = s.hostPort ∧ (State.silenceAll n s).pending = s.pending := by
  induction n generalizing s with
  | zero => simp [State.silenceAll]
  | succ n ih =>
    unfold State.silenceAll
    split <;> simp [ih]

/-! ### One record after an operation -/

/-- What replacing a record leaves in each record. -/
theorem State.peer_setPeer (d e : StationNo) (p : PeerRecord) :
    (s.setPeer d p).peer e = if e = d then p else s.peer e := by
  simp only [State.peer, State.setPeer, State.setPeers_peers, Fin.getElem_fin, Vector.getElem_set]
  by_cases h : e = d
  · simp [h]
  · rw [if_neg h, if_neg fun x => h (Fin.ext x.symm)]

/-- A record given a state has it, and keeps its other fields; the other records stay. -/
theorem State.peer_peerBecomes (d e : StationNo) (after : PeerState) :
    (s.peerBecomes d after).peer e = if e = d then { s.peer d with state := after } else s.peer e := by
  have key : ∀ t : State, t.peers = (s.setPeer d { s.peer d with state := after }).peers →
      t.peer e = if e = d then { s.peer d with state := after } else s.peer e := by
    intro t ht
    rw [← State.peer_setPeer]
    simp only [State.peer, ht]
  unfold State.peerBecomes
  dsimp only
  split
  · rename_i h
    by_cases he : e = d
    · subst he; simp [← h]
    · simp [he]
  · exact key _ (by simp)

/-- The tick raises the count of the records it ages, and nothing else. -/
theorem State.peer_agePeers (d : StationNo) :
    s.agePeers.peer d =
      if (s.peer d).state.aged then { s.peer d with silenceCount := (s.peer d).silenceCount + 1 } else s.peer d := by
  simp [State.peer, State.agePeers]
  rfl

/-- What the clearing of the table leaves. -/
theorem State.peer_clearPeers (d : StationNo) :
    s.clearPeers.peer d = PeerRecord.cleared (if d = s.own then .self else .absent) := by
  simp [State.peer, State.clearPeers, clearedPeers]

end Sys2Proof.Machine
end

