-- ==== Sys2Proof/Laws/Contexts.lean ====
section
/-! SUPPORT. What the responder's operations leave alone: for each operation one lemma naming every block it does not change. -/

namespace Sys2Proof.Machine

variable (s : State)

@[simp] theorem State.answerBusy_frame (g : Segment) :
    (s.answerBusy g).requester = s.requester ∧ (s.answerBusy g).staging = s.staging ∧
    (s.answerBusy g).responder = s.responder ∧ (s.answerBusy g).windows = s.windows ∧
    (s.answerBusy g).target = s.target ∧ (s.answerBusy g).peers = s.peers ∧
    (s.answerBusy g).controller = s.controller ∧ (s.answerBusy g).completions = s.completions ∧
    (s.answerBusy g).notices = s.notices ∧ (s.answerBusy g).hostPort = s.hostPort ∧
    (s.answerBusy g).pending = s.pending := by
  simp [State.answerBusy]

@[simp] theorem State.answerRefused_frame (g : Segment) (c : Cause) :
    (s.answerRefused g c).requester = s.requester ∧ (s.answerRefused g c).staging = s.staging ∧
    (s.answerRefused g c).responder = s.responder ∧ (s.answerRefused g c).windows = s.windows ∧
    (s.answerRefused g c).target = s.target ∧ (s.answerRefused g c).peers = s.peers ∧
    (s.answerRefused g c).controller = s.controller ∧ (s.answerRefused g c).completions = s.completions ∧
    (s.answerRefused g c).notices = s.notices ∧ (s.answerRefused g c).hostPort = s.hostPort ∧
    (s.answerRefused g c).pending = s.pending := by
  simp [State.answerRefused]

@[simp] theorem State.setContext_frame (j : EntryNo) (c : Context) :
    (s.setContext j c).requester = s.requester ∧ (s.setContext j c).staging = s.staging ∧
    (s.setContext j c).windows = s.windows ∧ (s.setContext j c).target = s.target ∧ (s.setContext j c).link = s.link ∧
    (s.setContext j c).peers = s.peers ∧ (s.setContext j c).controller = s.controller ∧
    (s.setContext j c).completions = s.completions ∧ (s.setContext j c).notices = s.notices ∧
    (s.setContext j c).hostPort = s.hostPort ∧ (s.setContext j c).pending = s.pending := by
  simp [State.setContext]

@[simp] theorem State.freeContext_frame (j : EntryNo) :
    (s.freeContext j).requester = s.requester ∧ (s.freeContext j).staging = s.staging ∧
    (s.freeContext j).windows = s.windows ∧ (s.freeContext j).target = s.target ∧ (s.freeContext j).link = s.link ∧
    (s.freeContext j).peers = s.peers ∧ (s.freeContext j).controller = s.controller ∧
    (s.freeContext j).completions = s.completions ∧ (s.freeContext j).notices = s.notices ∧
    (s.freeContext j).hostPort = s.hostPort ∧ (s.freeContext j).pending = s.pending := by
  simp [State.freeContext]

@[simp] theorem State.postDropped_frame (j : EntryNo) (why : DropReason) :
    (s.postDropped j why).requester = s.requester ∧ (s.postDropped j why).staging = s.staging ∧
    (s.postDropped j why).responder = s.responder ∧ (s.postDropped j why).windows = s.windows ∧
    (s.postDropped j why).target = s.target ∧ (s.postDropped j why).link = s.link ∧
    (s.postDropped j why).peers = s.peers ∧ (s.postDropped j why).controller = s.controller ∧
    (s.postDropped j why).completions = s.completions ∧ (s.postDropped j why).hostPort = s.hostPort ∧
    (s.postDropped j why).pending = s.pending := by
  simp [State.postDropped]

@[simp] theorem State.discardContext_frame (j : EntryNo) :
    (s.discardContext j).requester = s.requester ∧ (s.discardContext j).staging = s.staging ∧
    (s.discardContext j).windows = s.windows ∧ (s.discardContext j).target = s.target ∧
    (s.discardContext j).link = s.link ∧ (s.discardContext j).peers = s.peers ∧
    (s.discardContext j).controller = s.controller ∧ (s.discardContext j).completions = s.completions ∧
    (s.discardContext j).hostPort = s.hostPort ∧ (s.discardContext j).pending = s.pending := by
  unfold State.discardContext
  (repeat' split) <;> simp

@[simp] theorem State.clearContexts_frame :
    (s.clearContexts).requester = s.requester ∧ (s.clearContexts).staging = s.staging ∧
    (s.clearContexts).windows = s.windows ∧ (s.clearContexts).target = s.target ∧ (s.clearContexts).link = s.link ∧
    (s.clearContexts).peers = s.peers ∧ (s.clearContexts).controller = s.controller ∧
    (s.clearContexts).completions = s.completions ∧ (s.clearContexts).notices = s.notices ∧
    (s.clearContexts).hostPort = s.hostPort ∧ (s.clearContexts).pending = s.pending := by
  simp [State.clearContexts]

@[simp] theorem State.createContext_frame (j : EntryNo) (g : Segment) (w : EntryNo) (len : Nat) :
    (s.createContext j g w len).requester = s.requester ∧ (s.createContext j g w len).staging = s.staging ∧
    (s.createContext j g w len).windows = s.windows ∧ (s.createContext j g w len).target = s.target ∧
    (s.createContext j g w len).link = s.link ∧ (s.createContext j g w len).peers = s.peers ∧
    (s.createContext j g w len).controller = s.controller ∧ (s.createContext j g w len).completions = s.completions ∧
    (s.createContext j g w len).notices = s.notices ∧ (s.createContext j g w len).hostPort = s.hostPort ∧
    (s.createContext j g w len).pending = s.pending := by
  simp [State.createContext]

@[simp] theorem State.takeAdmitted_frame (g : Segment) (e : Option EntryNo) (w : EntryNo) (len : Nat) :
    (s.takeAdmitted g e w len).requester = s.requester ∧ (s.takeAdmitted g e w len).staging = s.staging ∧
    (s.takeAdmitted g e w len).windows = s.windows ∧ (s.takeAdmitted g e w len).target = s.target ∧
    (s.takeAdmitted g e w len).peers = s.peers ∧ (s.takeAdmitted g e w len).controller = s.controller ∧
    (s.takeAdmitted g e w len).completions = s.completions ∧ (s.takeAdmitted g e w len).notices = s.notices ∧
    (s.takeAdmitted g e w len).hostPort = s.hostPort ∧ (s.takeAdmitted g e w len).pending = s.pending := by
  unfold State.takeAdmitted
  (repeat' split) <;> simp

@[simp] theorem State.treatAsNew_frame (g : Segment) (e : Option EntryNo) :
    (s.treatAsNew g e).requester = s.requester ∧ (s.treatAsNew g e).staging = s.staging ∧
    (s.treatAsNew g e).windows = s.windows ∧ (s.treatAsNew g e).target = s.target ∧
    (s.treatAsNew g e).peers = s.peers ∧ (s.treatAsNew g e).controller = s.controller ∧
    (s.treatAsNew g e).completions = s.completions ∧ (s.treatAsNew g e).notices = s.notices ∧
    (s.treatAsNew g e).hostPort = s.hostPort ∧ (s.treatAsNew g e).pending = s.pending := by
  unfold State.treatAsNew
  (repeat' split) <;> simp

@[simp] theorem State.answerStored_frame (j : EntryNo) (r : RunResult) :
    (s.answerStored j r).requester = s.requester ∧ (s.answerStored j r).staging = s.staging ∧
    (s.answerStored j r).windows = s.windows ∧ (s.answerStored j r).target = s.target ∧
    (s.answerStored j r).peers = s.peers ∧ (s.answerStored j r).controller = s.controller ∧
    (s.answerStored j r).completions = s.completions ∧ (s.answerStored j r).notices = s.notices ∧
    (s.answerStored j r).hostPort = s.hostPort ∧ (s.answerStored j r).pending = s.pending := by
  simp [State.answerStored]

@[simp] theorem State.serveRepeat_frame (g : Segment) (j : EntryNo) :
    (s.serveRepeat g j).requester = s.requester ∧ (s.serveRepeat g j).staging = s.staging ∧
    (s.serveRepeat g j).windows = s.windows ∧ (s.serveRepeat g j).target = s.target ∧
    (s.serveRepeat g j).peers = s.peers ∧ (s.serveRepeat g j).controller = s.controller ∧
    (s.serveRepeat g j).completions = s.completions ∧ (s.serveRepeat g j).notices = s.notices ∧
    (s.serveRepeat g j).hostPort = s.hostPort ∧ (s.serveRepeat g j).pending = s.pending := by
  unfold State.serveRepeat
  dsimp only
  (repeat' split) <;> simp

@[simp] theorem State.supersede_frame (g : Segment) (j : EntryNo) :
    (s.supersede g j).requester = s.requester ∧ (s.supersede g j).staging = s.staging ∧
    (s.supersede g j).windows = s.windows ∧ (s.supersede g j).target = s.target ∧ (s.supersede g j).peers = s.peers ∧
    (s.supersede g j).controller = s.controller ∧ (s.supersede g j).completions = s.completions ∧
    (s.supersede g j).hostPort = s.hostPort ∧ (s.supersede g j).pending = s.pending := by
  unfold State.supersede
  (repeat' split) <;> simp

@[simp] theorem State.serveUnknown_frame (g : Segment) :
    (s.serveUnknown g).requester = s.requester ∧ (s.serveUnknown g).staging = s.staging ∧
    (s.serveUnknown g).windows = s.windows ∧ (s.serveUnknown g).target = s.target ∧
    (s.serveUnknown g).peers = s.peers ∧ (s.serveUnknown g).controller = s.controller ∧
    (s.serveUnknown g).completions = s.completions ∧ (s.serveUnknown g).notices = s.notices ∧
    (s.serveUnknown g).hostPort = s.hostPort ∧ (s.serveUnknown g).pending = s.pending := by
  unfold State.serveUnknown
  (repeat' split) <;> simp

@[simp] theorem State.lookup_frame (g : Segment) :
    (s.lookup g).requester = s.requester ∧ (s.lookup g).staging = s.staging ∧ (s.lookup g).windows = s.windows ∧
    (s.lookup g).target = s.target ∧ (s.lookup g).peers = s.peers ∧ (s.lookup g).controller = s.controller ∧
    (s.lookup g).completions = s.completions ∧ (s.lookup g).hostPort = s.hostPort ∧ (s.lookup g).pending = s.pending := by
  unfold State.lookup
  dsimp only
  (repeat' split) <;> simp

@[simp] theorem State.wakeReport_frame (g : Segment) :
    (s.wakeReport g).requester = s.requester ∧ (s.wakeReport g).staging = s.staging ∧
    (s.wakeReport g).responder = s.responder ∧ (s.wakeReport g).windows = s.windows ∧
    (s.wakeReport g).target = s.target ∧ (s.wakeReport g).peers = s.peers ∧
    (s.wakeReport g).completions = s.completions ∧ (s.wakeReport g).hostPort = s.hostPort ∧
    (s.wakeReport g).pending = s.pending := by
  simp [State.wakeReport]

@[simp] theorem State.deliverSegment_frame (g : Segment) :
    (s.deliverSegment g).requester = s.requester ∧ (s.deliverSegment g).staging = s.staging ∧
    (s.deliverSegment g).windows = s.windows ∧ (s.deliverSegment g).target = s.target ∧
    (s.deliverSegment g).peers = s.peers ∧ (s.deliverSegment g).completions = s.completions ∧
    (s.deliverSegment g).hostPort = s.hostPort ∧ (s.deliverSegment g).pending = s.pending := by
  unfold State.deliverSegment
  (repeat' split) <;> simp

@[simp] theorem State.endReservation_frame :
    (s.endReservation).requester = s.requester ∧ (s.endReservation).staging = s.staging ∧
    (s.endReservation).windows = s.windows ∧ (s.endReservation).target = s.target ∧
    (s.endReservation).peers = s.peers ∧ (s.endReservation).controller = s.controller ∧
    (s.endReservation).completions = s.completions ∧ (s.endReservation).notices = s.notices ∧
    (s.endReservation).hostPort = s.hostPort ∧ (s.endReservation).pending = s.pending := by
  simp [State.endReservation]

@[simp] theorem State.checkLeaving_frame :
    (s.checkLeaving).requester = s.requester ∧ (s.checkLeaving).staging = s.staging ∧
    (s.checkLeaving).responder = s.responder ∧ (s.checkLeaving).windows = s.windows ∧
    (s.checkLeaving).target = s.target ∧ (s.checkLeaving).peers = s.peers ∧
    (s.checkLeaving).completions = s.completions ∧ (s.checkLeaving).notices = s.notices ∧
    (s.checkLeaving).hostPort = s.hostPort ∧ (s.checkLeaving).pending = s.pending := by
  unfold State.checkLeaving
  (repeat' split) <;> simp

/-! ### One context after an operation -/

/-- What replacing an entry leaves in each entry. -/
theorem State.context_setContext (i j : EntryNo) (c : Context) :
    (s.setContext i c).context j = if j = i then c else s.context j := by
  simp only [State.context, State.setContext, State.onResponder_responder, Fin.getElem_fin, Vector.getElem_set]
  by_cases h : j = i
  · simp [h]
  · rw [if_neg h, if_neg fun e => h (Fin.ext e.symm)]

@[simp] theorem State.context_setContext_self (j : EntryNo) (c : Context) : (s.setContext j c).context j = c := by
  simp [State.context_setContext]

/-- What freeing an entry leaves in each entry. -/
theorem State.context_freeContext (i j : EntryNo) :
    (s.freeContext i).context j = if j = i then (s.context i).freed else s.context j := by
  simp [State.freeContext, State.context_setContext]

/-- What the clearing of the table leaves in each entry. -/
theorem State.context_clearContexts (j : EntryNo) : s.clearContexts.context j = (s.context j).isolate := by
  simp [State.context, State.clearContexts]

/-- The created context, and the others as they were. -/
theorem State.context_createContext (i j : EntryNo) (g : Segment) (w : EntryNo) (len : Nat) :
    (s.createContext i g w len).context j =
      if j = i then
        { state := .queued, requester := g.source, tag := g.tag, generation := g.generation, op := g.op,
          offset := g.offset, address := g.address, window := w, lengthInWindow := len, bytesMoved := 0,
          data := bufferAtCreation (s.context i).data g, writePerformed := false, orphan := .clear,
          answerOwed := true, creation := s.responder.creationNext }
      else s.context j := by
  simp only [State.context, State.createContext, State.onResponder_responder, Fin.getElem_fin, Vector.getElem_set]
  by_cases h : j = i
  · simp [h]
  · rw [if_neg h, if_neg fun e => h (Fin.ext e.symm)]

/-- The end of a reservation leaves every context, no answer owed. -/
theorem State.context_endReservation (j : EntryNo) :
    s.endReservation.context j = { s.context j with answerOwed := false } := by
  simp [State.context, State.endReservation]

end Sys2Proof.Machine
end

