-- ==== Sys2Proof/Laws/Bus.lean ====
section
/-! SUPPORT. What the target bus unit's operations leave alone: for each operation one lemma naming every block it does not change. -/

namespace Sys2Proof.Machine

variable (s : State)

@[simp] theorem State.startCycle_frame (y : Cycle) (c : Context) :
    (s.startCycle y c).requester = s.requester ∧ (s.startCycle y c).staging = s.staging ∧
    (s.startCycle y c).responder = s.responder ∧ (s.startCycle y c).windows = s.windows ∧
    (s.startCycle y c).link = s.link ∧ (s.startCycle y c).peers = s.peers ∧
    (s.startCycle y c).controller = s.controller ∧ (s.startCycle y c).completions = s.completions ∧
    (s.startCycle y c).notices = s.notices ∧ (s.startCycle y c).hostPort = s.hostPort ∧
    (s.startCycle y c).pending = s.pending := by
  simp [State.startCycle]

@[simp] theorem State.startAttempt_frame :
    (s.startAttempt).requester = s.requester ∧ (s.startAttempt).staging = s.staging ∧
    (s.startAttempt).responder = s.responder ∧ (s.startAttempt).windows = s.windows ∧ (s.startAttempt).link = s.link ∧
    (s.startAttempt).peers = s.peers ∧ (s.startAttempt).controller = s.controller ∧
    (s.startAttempt).completions = s.completions ∧ (s.startAttempt).notices = s.notices ∧
    (s.startAttempt).hostPort = s.hostPort ∧ (s.startAttempt).pending = s.pending := by
  unfold State.startAttempt
  (repeat' split) <;> simp

@[simp] theorem State.idlePins_frame :
    (s.idlePins).requester = s.requester ∧ (s.idlePins).staging = s.staging ∧ (s.idlePins).responder = s.responder ∧
    (s.idlePins).windows = s.windows ∧ (s.idlePins).link = s.link ∧ (s.idlePins).peers = s.peers ∧
    (s.idlePins).controller = s.controller ∧ (s.idlePins).completions = s.completions ∧
    (s.idlePins).notices = s.notices ∧ (s.idlePins).hostPort = s.hostPort ∧ (s.idlePins).pending = s.pending := by
  simp [State.idlePins]

@[simp] theorem State.idleUnit_frame :
    (s.idleUnit).requester = s.requester ∧ (s.idleUnit).staging = s.staging ∧ (s.idleUnit).responder = s.responder ∧
    (s.idleUnit).windows = s.windows ∧ (s.idleUnit).link = s.link ∧ (s.idleUnit).peers = s.peers ∧
    (s.idleUnit).controller = s.controller ∧ (s.idleUnit).completions = s.completions ∧
    (s.idleUnit).notices = s.notices ∧ (s.idleUnit).hostPort = s.hostPort ∧ (s.idleUnit).pending = s.pending := by
  simp [State.idleUnit]

@[simp] theorem State.cyclesEnd_frame (j : EntryNo) (r : RunResult) :
    (s.cyclesEnd j r).requester = s.requester ∧ (s.cyclesEnd j r).staging = s.staging ∧
    (s.cyclesEnd j r).windows = s.windows ∧ (s.cyclesEnd j r).target = s.target ∧ (s.cyclesEnd j r).peers = s.peers ∧
    (s.cyclesEnd j r).controller = s.controller ∧ (s.cyclesEnd j r).completions = s.completions ∧
    (s.cyclesEnd j r).hostPort = s.hostPort ∧ (s.cyclesEnd j r).pending = s.pending := by
  unfold State.cyclesEnd
  dsimp only
  (repeat' split) <;> simp

@[simp] theorem State.endRun_frame (j : EntryNo) (r : RunResult) :
    (s.endRun j r).requester = s.requester ∧ (s.endRun j r).staging = s.staging ∧ (s.endRun j r).windows = s.windows ∧
    (s.endRun j r).peers = s.peers ∧ (s.endRun j r).completions = s.completions ∧
    (s.endRun j r).hostPort = s.hostPort ∧ (s.endRun j r).pending = s.pending := by
  simp [State.endRun]

@[simp] theorem State.failRun_frame (j : EntryNo) (cause : Cause) :
    (s.failRun j cause).requester = s.requester ∧ (s.failRun j cause).staging = s.staging ∧
    (s.failRun j cause).windows = s.windows ∧ (s.failRun j cause).peers = s.peers ∧
    (s.failRun j cause).completions = s.completions ∧ (s.failRun j cause).hostPort = s.hostPort ∧
    (s.failRun j cause).pending = s.pending := by
  simp [State.failRun]

@[simp] theorem State.awaitWithdrawal_frame (g : Bool) :
    (s.awaitWithdrawal g).requester = s.requester ∧ (s.awaitWithdrawal g).staging = s.staging ∧
    (s.awaitWithdrawal g).responder = s.responder ∧ (s.awaitWithdrawal g).windows = s.windows ∧
    (s.awaitWithdrawal g).link = s.link ∧ (s.awaitWithdrawal g).peers = s.peers ∧
    (s.awaitWithdrawal g).controller = s.controller ∧ (s.awaitWithdrawal g).completions = s.completions ∧
    (s.awaitWithdrawal g).notices = s.notices ∧ (s.awaitWithdrawal g).hostPort = s.hostPort ∧
    (s.awaitWithdrawal g).pending = s.pending := by
  simp [State.awaitWithdrawal]

@[simp] theorem State.takeAcknowledge_frame (j : EntryNo) (h : HeldWindow) (y : Cycle) (w : Nat) (data : BitVec 32) :
    (s.takeAcknowledge j h y w data).requester = s.requester ∧ (s.takeAcknowledge j h y w data).staging = s.staging ∧
    (s.takeAcknowledge j h y w data).windows = s.windows ∧ (s.takeAcknowledge j h y w data).peers = s.peers ∧
    (s.takeAcknowledge j h y w data).completions = s.completions ∧
    (s.takeAcknowledge j h y w data).hostPort = s.hostPort ∧ (s.takeAcknowledge j h y w data).pending = s.pending := by
  unfold State.takeAcknowledge
  dsimp only
  split <;> simp

@[simp] theorem State.takeRetry_frame (j : EntryNo) :
    (s.takeRetry j).requester = s.requester ∧ (s.takeRetry j).staging = s.staging ∧
    (s.takeRetry j).windows = s.windows ∧ (s.takeRetry j).peers = s.peers ∧
    (s.takeRetry j).completions = s.completions ∧ (s.takeRetry j).hostPort = s.hostPort ∧
    (s.takeRetry j).pending = s.pending := by
  unfold State.takeRetry
  (repeat' split) <;> simp

end Sys2Proof.Machine
end

