-- ==== Sys2Proof/Laws/Line.lean ====
section
/-! SUPPORT. The small lemmas of the line's levels. -/

namespace Sys2Proof.Machine

@[simp] theorem lineLevels_nil : lineLevels [] = [] := rfl

@[simp] theorem lineLevels_cons (b : Byte) (bs : List Byte) : lineLevels (b :: bs) = character b ++ lineLevels bs := rfl

@[simp] theorem character_length (b : Byte) : (character b).length = 10 := by simp [character]

@[simp] theorem byteOfLevels_bits (b : Byte) : byteOfLevels ((List.range 8).map fun k => levelOf (b.getMsbD k)) = b := by
  revert b; decide +kernel

/-- One character heard with its stop bit recessive, and what follows it. -/
theorem hearCharacters_character (n : Nat) (b : Byte) (rest : List Level) :
    hearCharacters (n + 1) (character b ++ rest) =
      { bytes := b :: (hearCharacters n rest).bytes, framingError := (hearCharacters n rest).framingError } := by
  have hb := byteOfLevels_bits b
  simp only [List.range_succ, List.range_zero] at hb
  simp [character, hearCharacters, List.range_succ] at hb ⊢
  exact hb

/-- A station that drives nothing leaves the line recessive. -/
theorem State.drivenLevel_of_none {s : State} (h : s.drivenFrame = none) (k : Nat) : s.drivenLevel k = .recessive := by
  simp [State.drivenLevel, h]

end Sys2Proof.Machine
end

