-- ==== Sys2Proof/Laws/Memory.lean ====
section
/-! SUPPORT. The laws of staging memory: what a read gives after a store, and that every operation keeps the canonical form. -/

namespace Sys2Proof.Machine

/-- Every listed address is above `a`. -/
def Memory.above (m : Memory) (a : Nat) : Prop := ∀ c ∈ m, a < c.1

theorem Memory.wf_cons {c : Host.Cell} {m : Memory} :
    Memory.wf (c :: m) = true ↔
      c.1 < Config.stagingSize ∧ c.2 ≠ 0 ∧ Memory.above m c.1 ∧ Memory.wf m = true := by
  obtain ⟨a, b⟩ := c
  simp [Memory.wf, Memory.above, and_assoc]

/-- An address below every listed one reads 0. -/
theorem Memory.read_of_above {m : Memory} {a : Nat} (h : Memory.above m a) : Memory.read m a = 0 := by
  induction m with
  | nil => rfl
  | cons c m ih =>
    obtain ⟨k, v⟩ := c
    have hk : a < k := h (k, v) (by simp)
    have hne : a ≠ k := by omega
    simp only [Memory.read, if_neg hne]
    exact ih fun c hc => h c (by simp [hc])

/-- Inserting keeps every listed address above a bound that the new one is above. -/
theorem Memory.insert_above {m : Memory} {k a : Nat} {b : Byte} (h : Memory.above m k) (hk : k < a) :
    Memory.above (Memory.insert m a b) k := by
  induction m with
  | nil =>
    intro c hc
    simp only [Memory.insert] at hc
    split at hc
    · simp at hc
    · simp only [List.mem_singleton] at hc; simpa [hc] using hk
  | cons d m ih =>
    obtain ⟨x, v⟩ := d
    have hx : k < x := h (x, v) (by simp)
    have hm : Memory.above m k := fun c hc => h c (by simp [hc])
    intro c hc
    simp only [Memory.insert] at hc
    split at hc
    · split at hc
      · rcases List.mem_cons.1 hc with rfl | hc
        · exact hx
        · exact hm c hc
      · rcases List.mem_cons.1 hc with rfl | hc
        · exact hk
        · exact h c hc
    · split at hc
      · split at hc
        · exact hm c hc
        · rcases List.mem_cons.1 hc with rfl | hc
          · exact hk
          · exact hm c hc
      · rcases List.mem_cons.1 hc with rfl | hc
        · exact hx
        · exact ih hm c hc

/-- Replacing one byte inside staging memory keeps the canonical form. -/
theorem Memory.insert_wf {m : Memory} {a : Nat} {b : Byte} (h : Memory.wf m = true) (ha : a < Config.stagingSize) :
    Memory.wf (Memory.insert m a b) = true := by
  induction m with
  | nil =>
    by_cases hb : b = 0#8
    · simp [Memory.insert, hb, Memory.wf]
    · simp [Memory.insert, hb, Memory.wf, ha]
  | cons c m ih =>
    obtain ⟨k, v⟩ := c
    obtain ⟨hk, hv, habove, hm⟩ := Memory.wf_cons.1 h
    simp only [Memory.insert]
    split
    · rename_i hlt
      split
      · exact h
      · refine Memory.wf_cons.2 ⟨ha, by assumption, ?_, h⟩
        intro c hc
        rcases List.mem_cons.1 hc with rfl | hc
        · exact hlt
        · exact Nat.lt_trans hlt (habove c hc)
    · split
      · rename_i heq
        subst heq
        split
        · exact hm
        · exact Memory.wf_cons.2 ⟨ha, by assumption, habove, hm⟩
      · exact Memory.wf_cons.2 ⟨hk, hv, Memory.insert_above habove (by simp only; omega), ih hm⟩

/-- A byte replaced reads as written, and every other byte as before. -/
theorem Memory.read_insert {m : Memory} {a : Nat} {b : Byte} (h : Memory.wf m = true) (x : Nat) :
    Memory.read (Memory.insert m a b) x = if x = a then b else Memory.read m x := by
  induction m with
  | nil =>
    by_cases hb : b = 0#8 <;> by_cases hx : x = a <;> simp [Memory.insert, Memory.read, hb, hx]
  | cons c m ih =>
    obtain ⟨k, v⟩ := c
    obtain ⟨-, -, habove, hm⟩ := Memory.wf_cons.1 h
    simp only [Memory.insert]
    split
    · rename_i hlt
      by_cases hb : b = 0#8
      · by_cases hx : x = a
        · subst hx
          have hr : Memory.read ((k, v) :: m) x = 0 := by
            refine Memory.read_of_above fun c hc => ?_
            rcases List.mem_cons.1 hc with rfl | hc
            · exact hlt
            · exact Nat.lt_trans hlt (habove c hc)
          simp [hb, hr]
        · simp [hb, hx]
      · by_cases hx : x = a <;> simp [hb, hx, Memory.read]
    · split
      · rename_i heq
        subst heq
        by_cases hb : b = 0#8
        · by_cases hx : x = a
          · subst hx; simp [hb, Memory.read_of_above habove]
          · simp [hb, hx, Memory.read]
        · by_cases hx : x = a <;> simp [hb, hx, Memory.read]
      · rename_i hlt hne
        by_cases hx : x = k
        · subst hx
          have : x ≠ a := fun h => hne h.symm
          simp [Memory.read, this]
        · simp [Memory.read, hx, ih hm]

/-- A store keeps the canonical form. -/
theorem Memory.store_wf {m : Memory} {a : Nat} {b : Byte} (h : Memory.wf m = true) : Memory.wf (Memory.store m a b) = true := by
  unfold Memory.store
  split
  · exact Memory.insert_wf h (by assumption)
  · exact h

/-- What a store leaves at each address. -/
theorem Memory.read_store {m : Memory} {a : Nat} {b : Byte} (h : Memory.wf m = true) (x : Nat) :
    Memory.read (Memory.store m a b) x = if x = a ∧ a < Config.stagingSize then b else Memory.read m x := by
  unfold Memory.store
  split
  · rename_i ha; simp [Memory.read_insert h, ha]
  · rename_i ha; simp [ha]

/-- Storing a run of bytes keeps the canonical form. -/
theorem Memory.storeBytes_wf {m : Memory} {a : Nat} {bs : List Byte} (h : Memory.wf m = true) :
    Memory.wf (Memory.storeBytes m a bs) = true := by
  induction bs generalizing m a with
  | nil => exact h
  | cons b bs ih => exact ih (Memory.store_wf h)

/-- What storing a run of bytes leaves at each address. -/
theorem Memory.read_storeBytes {m : Memory} {a : Nat} {bs : List Byte} (h : Memory.wf m = true) (x : Nat) :
    Memory.read (Memory.storeBytes m a bs) x =
      if a ≤ x ∧ x < a + bs.length ∧ x < Config.stagingSize then bs.getD (x - a) 0 else Memory.read m x := by
  induction bs generalizing m a with
  | nil =>
    have : ¬(a ≤ x ∧ x < a + ([] : List Byte).length ∧ x < Config.stagingSize) := by simp; omega
    rw [if_neg this]; rfl
  | cons b bs ih =>
    rw [Memory.storeBytes, ih (Memory.store_wf h), Memory.read_store h]
    by_cases hx : x = a
    · subst hx
      by_cases hs : x < Config.stagingSize <;> simp [hs]
    · by_cases hin : a ≤ x ∧ x < a + (b :: bs).length ∧ x < Config.stagingSize
      · have hin' : a + 1 ≤ x ∧ x < a + 1 + bs.length ∧ x < Config.stagingSize := by
          simp only [List.length_cons] at hin; omega
        have hd : x - a = (x - (a + 1)) + 1 := by omega
        rw [if_pos hin, if_pos hin', hd, List.getD_cons_succ]
      · have hin' : ¬(a + 1 ≤ x ∧ x < a + 1 + bs.length ∧ x < Config.stagingSize) := by
          simp only [List.length_cons] at hin; omega
        rw [if_neg hin, if_neg hin', if_neg (by tauto)]

@[simp] theorem Memory.length_readBytes (m : Memory) (a n : Nat) : (Memory.readBytes m a n).length = n := by
  simp [Memory.readBytes]

/-- Staging memory is in its canonical form at reset. -/
theorem State.reset_staging_wf : Memory.wf State.reset.staging = true := rfl

end Sys2Proof.Machine
end

