-- ==== Sys2Proof/Laws/Station.lean ====
section
/-! SUPPORT. What the station controller's operations leave alone: for each operation one lemma naming every block it does not change. -/

namespace Sys2Proof.Machine

variable (s : State)

@[simp] theorem State.joinSpan_frame :
    (s.joinSpan).requester = s.requester ∧ (s.joinSpan).staging = s.staging ∧ (s.joinSpan).responder = s.responder ∧
    (s.joinSpan).windows = s.windows ∧ (s.joinSpan).target = s.target ∧ (s.joinSpan).peers = s.peers ∧
    (s.joinSpan).completions = s.completions ∧ (s.joinSpan).notices = s.notices ∧ (s.joinSpan).hostPort = s.hostPort ∧
    (s.joinSpan).pending = s.pending := by
  simp [State.joinSpan]

@[simp] theorem State.stopTimers_frame :
    (s.stopTimers).requester = s.requester ∧ (s.stopTimers).staging = s.staging ∧
    (s.stopTimers).responder = s.responder ∧ (s.stopTimers).windows = s.windows ∧ (s.stopTimers).target = s.target ∧
    (s.stopTimers).link = s.link ∧ (s.stopTimers).peers = s.peers ∧ (s.stopTimers).completions = s.completions ∧
    (s.stopTimers).notices = s.notices ∧ (s.stopTimers).hostPort = s.hostPort ∧ (s.stopTimers).pending = s.pending := by
  simp [State.stopTimers]

@[simp] theorem State.isolate_frame (k : NoticeKind) :
    (s.isolate k).staging = s.staging ∧ (s.isolate k).windows = s.windows ∧ (s.isolate k).target = s.target ∧
    (s.isolate k).completions = s.completions ∧ (s.isolate k).hostPort = s.hostPort ∧
    (s.isolate k).pending = s.pending := by
  simp [State.isolate]

@[simp] theorem State.report_frame (k : NoticeKind) :
    (s.report k).staging = s.staging ∧ (s.report k).windows = s.windows ∧ (s.report k).target = s.target ∧
    (s.report k).completions = s.completions ∧ (s.report k).hostPort = s.hostPort ∧ (s.report k).pending = s.pending := by
  unfold State.report
  (repeat' split) <;> simp

@[simp] theorem State.endLeaving_frame :
    (s.endLeaving).requester = s.requester ∧ (s.endLeaving).staging = s.staging ∧ (s.endLeaving).windows = s.windows ∧
    (s.endLeaving).target = s.target ∧ (s.endLeaving).completions = s.completions ∧
    (s.endLeaving).hostPort = s.hostPort ∧ (s.endLeaving).pending = s.pending := by
  simp [State.endLeaving]

@[simp] theorem State.startLeaving_frame :
    (s.startLeaving).staging = s.staging ∧ (s.startLeaving).responder = s.responder ∧
    (s.startLeaving).windows = s.windows ∧ (s.startLeaving).target = s.target ∧ (s.startLeaving).peers = s.peers ∧
    (s.startLeaving).completions = s.completions ∧ (s.startLeaving).notices = s.notices ∧
    (s.startLeaving).hostPort = s.hostPort ∧ (s.startLeaving).pending = s.pending := by
  unfold State.startLeaving
  dsimp only
  split <;> simp

@[simp] theorem State.endListening_frame :
    (s.endListening).requester = s.requester ∧ (s.endListening).staging = s.staging ∧
    (s.endListening).responder = s.responder ∧ (s.endListening).windows = s.windows ∧
    (s.endListening).target = s.target ∧ (s.endListening).peers = s.peers ∧
    (s.endListening).completions = s.completions ∧ (s.endListening).hostPort = s.hostPort ∧
    (s.endListening).pending = s.pending := by
  simp [State.endListening]

@[simp] theorem State.tickEffect_frame :
    (s.tickEffect).requester = s.requester ∧ (s.tickEffect).staging = s.staging ∧
    (s.tickEffect).responder = s.responder ∧ (s.tickEffect).windows = s.windows ∧ (s.tickEffect).target = s.target ∧
    (s.tickEffect).peers = s.peers ∧ (s.tickEffect).completions = s.completions ∧
    (s.tickEffect).hostPort = s.hostPort ∧ (s.tickEffect).pending = s.pending := by
  unfold State.tickEffect
  (repeat' split) <;> simp

@[simp] theorem State.ageFrame_frame :
    (s.ageFrame).requester = s.requester ∧ (s.ageFrame).staging = s.staging ∧ (s.ageFrame).responder = s.responder ∧
    (s.ageFrame).windows = s.windows ∧ (s.ageFrame).target = s.target ∧ (s.ageFrame).peers = s.peers ∧
    (s.ageFrame).controller = s.controller ∧ (s.ageFrame).completions = s.completions ∧
    (s.ageFrame).notices = s.notices ∧ (s.ageFrame).hostPort = s.hostPort ∧ (s.ageFrame).pending = s.pending := by
  simp [State.ageFrame]

@[simp] theorem State.noAnswer_frame (i : Tag) :
    (s.noAnswer i).staging = s.staging ∧ (s.noAnswer i).responder = s.responder ∧ (s.noAnswer i).windows = s.windows ∧
    (s.noAnswer i).target = s.target ∧ (s.noAnswer i).peers = s.peers ∧ (s.noAnswer i).completions = s.completions ∧
    (s.noAnswer i).notices = s.notices ∧ (s.noAnswer i).hostPort = s.hostPort ∧ (s.noAnswer i).pending = s.pending := by
  simp [State.noAnswer]

@[simp] theorem State.takeDueAnswer_frame :
    (s.takeDueAnswer).staging = s.staging ∧ (s.takeDueAnswer).responder = s.responder ∧
    (s.takeDueAnswer).windows = s.windows ∧ (s.takeDueAnswer).target = s.target ∧ (s.takeDueAnswer).peers = s.peers ∧
    (s.takeDueAnswer).completions = s.completions ∧ (s.takeDueAnswer).notices = s.notices ∧
    (s.takeDueAnswer).hostPort = s.hostPort ∧ (s.takeDueAnswer).pending = s.pending := by
  unfold State.takeDueAnswer
  (repeat' split) <;> simp

@[simp] theorem State.takeDueFault_frame :
    (s.takeDueFault).staging = s.staging ∧ (s.takeDueFault).windows = s.windows ∧ (s.takeDueFault).target = s.target ∧
    (s.takeDueFault).completions = s.completions ∧ (s.takeDueFault).hostPort = s.hostPort ∧
    (s.takeDueFault).pending = s.pending := by
  unfold State.takeDueFault
  (repeat' split) <;> simp

@[simp] theorem State.takeDueAgeing_frame :
    (s.takeDueAgeing).requester = s.requester ∧ (s.takeDueAgeing).staging = s.staging ∧
    (s.takeDueAgeing).responder = s.responder ∧ (s.takeDueAgeing).windows = s.windows ∧
    (s.takeDueAgeing).target = s.target ∧ (s.takeDueAgeing).peers = s.peers ∧
    (s.takeDueAgeing).controller = s.controller ∧ (s.takeDueAgeing).completions = s.completions ∧
    (s.takeDueAgeing).notices = s.notices ∧ (s.takeDueAgeing).hostPort = s.hostPort ∧
    (s.takeDueAgeing).pending = s.pending := by
  unfold State.takeDueAgeing
  (repeat' split) <;> simp

@[simp] theorem State.takeDue_frame :
    (s.takeDue).staging = s.staging ∧ (s.takeDue).windows = s.windows ∧ (s.takeDue).target = s.target ∧
    (s.takeDue).completions = s.completions ∧ (s.takeDue).hostPort = s.hostPort ∧ (s.takeDue).pending = s.pending := by
  simp [State.takeDue]

end Sys2Proof.Machine
end

