-- ==== Sys2Proof/Laws/Requests.lean ====
section
/-! SUPPORT. What the requester's own steps leave alone: for each operation one lemma naming every block it does not change. -/

namespace Sys2Proof.Machine

variable (s : State)

@[simp] theorem State.dispatchInto_frame (d : Descriptor) (rest : List Descriptor) (i : Tag) :
    (s.dispatchInto d rest i).staging = s.staging ∧ (s.dispatchInto d rest i).responder = s.responder ∧
    (s.dispatchInto d rest i).windows = s.windows ∧ (s.dispatchInto d rest i).target = s.target ∧
    (s.dispatchInto d rest i).link = s.link ∧ (s.dispatchInto d rest i).peers = s.peers ∧
    (s.dispatchInto d rest i).controller = s.controller ∧ (s.dispatchInto d rest i).completions = s.completions ∧
    (s.dispatchInto d rest i).notices = s.notices ∧ (s.dispatchInto d rest i).hostPort = s.hostPort ∧
    (s.dispatchInto d rest i).pending = s.pending := by
  unfold State.dispatchInto
  dsimp only
  split <;> simp

@[simp] theorem State.writeRecord_frame (r : CompletionRecord) :
    (s.writeRecord r).requester = s.requester ∧ (s.writeRecord r).staging = s.staging ∧
    (s.writeRecord r).responder = s.responder ∧ (s.writeRecord r).windows = s.windows ∧
    (s.writeRecord r).target = s.target ∧ (s.writeRecord r).link = s.link ∧ (s.writeRecord r).peers = s.peers ∧
    (s.writeRecord r).controller = s.controller ∧ (s.writeRecord r).notices = s.notices ∧
    (s.writeRecord r).hostPort = s.hostPort ∧ (s.writeRecord r).pending = s.pending := by
  unfold State.writeRecord
  (repeat' split) <;> simp

@[simp] theorem State.completeSlot_frame (i : Tag) :
    (s.completeSlot i).staging = s.staging ∧ (s.completeSlot i).responder = s.responder ∧
    (s.completeSlot i).windows = s.windows ∧ (s.completeSlot i).target = s.target ∧ (s.completeSlot i).link = s.link ∧
    (s.completeSlot i).peers = s.peers ∧ (s.completeSlot i).controller = s.controller ∧
    (s.completeSlot i).notices = s.notices ∧ (s.completeSlot i).hostPort = s.hostPort ∧
    (s.completeSlot i).pending = s.pending := by
  unfold State.completeSlot
  (repeat' split) <;> simp

@[simp] theorem State.completeHead_frame (d : Descriptor) (rest : List Descriptor) (st : Status) :
    (s.completeHead d rest st).staging = s.staging ∧ (s.completeHead d rest st).responder = s.responder ∧
    (s.completeHead d rest st).windows = s.windows ∧ (s.completeHead d rest st).target = s.target ∧
    (s.completeHead d rest st).link = s.link ∧ (s.completeHead d rest st).peers = s.peers ∧
    (s.completeHead d rest st).controller = s.controller ∧ (s.completeHead d rest st).notices = s.notices ∧
    (s.completeHead d rest st).hostPort = s.hostPort ∧ (s.completeHead d rest st).pending = s.pending := by
  simp [State.completeHead]

@[simp] theorem State.loadFrame_frame (f : TxFrame) (u : Urgency) :
    (s.loadFrame f u).requester = s.requester ∧ (s.loadFrame f u).staging = s.staging ∧
    (s.loadFrame f u).responder = s.responder ∧ (s.loadFrame f u).windows = s.windows ∧
    (s.loadFrame f u).target = s.target ∧ (s.loadFrame f u).peers = s.peers ∧
    (s.loadFrame f u).controller = s.controller ∧ (s.loadFrame f u).completions = s.completions ∧
    (s.loadFrame f u).notices = s.notices ∧ (s.loadFrame f u).hostPort = s.hostPort ∧
    (s.loadFrame f u).pending = s.pending := by
  simp [State.loadFrame]

@[simp] theorem State.loadSlot_frame (i : Tag) :
    (s.loadSlot i).staging = s.staging ∧ (s.loadSlot i).responder = s.responder ∧ (s.loadSlot i).windows = s.windows ∧
    (s.loadSlot i).target = s.target ∧ (s.loadSlot i).peers = s.peers ∧ (s.loadSlot i).controller = s.controller ∧
    (s.loadSlot i).completions = s.completions ∧ (s.loadSlot i).notices = s.notices ∧
    (s.loadSlot i).hostPort = s.hostPort ∧ (s.loadSlot i).pending = s.pending := by
  simp [State.loadSlot]

@[simp] theorem State.applyTaken_frame (i : Tag) (a : Answer) :
    (s.applyTaken i a).responder = s.responder ∧ (s.applyTaken i a).windows = s.windows ∧
    (s.applyTaken i a).target = s.target ∧ (s.applyTaken i a).link = s.link ∧ (s.applyTaken i a).peers = s.peers ∧
    (s.applyTaken i a).controller = s.controller ∧ (s.applyTaken i a).completions = s.completions ∧
    (s.applyTaken i a).notices = s.notices ∧ (s.applyTaken i a).hostPort = s.hostPort ∧
    (s.applyTaken i a).pending = s.pending := by
  unfold State.applyTaken
  dsimp only
  split <;> simp

@[simp] theorem State.applyHeld_frame (i : Tag) :
    (s.applyHeld i).staging = s.staging ∧ (s.applyHeld i).responder = s.responder ∧
    (s.applyHeld i).windows = s.windows ∧ (s.applyHeld i).target = s.target ∧ (s.applyHeld i).link = s.link ∧
    (s.applyHeld i).peers = s.peers ∧ (s.applyHeld i).controller = s.controller ∧
    (s.applyHeld i).completions = s.completions ∧ (s.applyHeld i).notices = s.notices ∧
    (s.applyHeld i).hostPort = s.hostPort ∧ (s.applyHeld i).pending = s.pending := by
  simp [State.applyHeld]

@[simp] theorem State.applyBusy_frame (i : Tag) :
    (s.applyBusy i).staging = s.staging ∧ (s.applyBusy i).responder = s.responder ∧
    (s.applyBusy i).windows = s.windows ∧ (s.applyBusy i).target = s.target ∧ (s.applyBusy i).link = s.link ∧
    (s.applyBusy i).peers = s.peers ∧ (s.applyBusy i).controller = s.controller ∧
    (s.applyBusy i).completions = s.completions ∧ (s.applyBusy i).notices = s.notices ∧
    (s.applyBusy i).hostPort = s.hostPort ∧ (s.applyBusy i).pending = s.pending := by
  simp [State.applyBusy]

@[simp] theorem State.applyRefused_frame (i : Tag) (c : Cause) :
    (s.applyRefused i c).staging = s.staging ∧ (s.applyRefused i c).responder = s.responder ∧
    (s.applyRefused i c).windows = s.windows ∧ (s.applyRefused i c).target = s.target ∧
    (s.applyRefused i c).link = s.link ∧ (s.applyRefused i c).peers = s.peers ∧
    (s.applyRefused i c).controller = s.controller ∧ (s.applyRefused i c).completions = s.completions ∧
    (s.applyRefused i c).notices = s.notices ∧ (s.applyRefused i c).hostPort = s.hostPort ∧
    (s.applyRefused i c).pending = s.pending := by
  simp [State.applyRefused]

@[simp] theorem State.applyAnswer_frame (i : Tag) (a : Answer) :
    (s.applyAnswer i a).responder = s.responder ∧ (s.applyAnswer i a).windows = s.windows ∧
    (s.applyAnswer i a).target = s.target ∧ (s.applyAnswer i a).link = s.link ∧ (s.applyAnswer i a).peers = s.peers ∧
    (s.applyAnswer i a).controller = s.controller ∧ (s.applyAnswer i a).completions = s.completions ∧
    (s.applyAnswer i a).notices = s.notices ∧ (s.applyAnswer i a).hostPort = s.hostPort ∧
    (s.applyAnswer i a).pending = s.pending := by
  unfold State.applyAnswer
  (repeat' split) <;> simp

@[simp] theorem State.deliverAnswer_frame (a : Answer) :
    (s.deliverAnswer a).responder = s.responder ∧ (s.deliverAnswer a).windows = s.windows ∧
    (s.deliverAnswer a).target = s.target ∧ (s.deliverAnswer a).link = s.link ∧ (s.deliverAnswer a).peers = s.peers ∧
    (s.deliverAnswer a).controller = s.controller ∧ (s.deliverAnswer a).completions = s.completions ∧
    (s.deliverAnswer a).notices = s.notices ∧ (s.deliverAnswer a).hostPort = s.hostPort ∧
    (s.deliverAnswer a).pending = s.pending := by
  unfold State.deliverAnswer
  (repeat' split) <;> simp

end Sys2Proof.Machine
end

