-- ==== Sys2Proof/Laws/Span.lean ====
section
/-! SUPPORT. What the link unit's steps leave alone: for each operation one lemma naming every block it does not change. -/

namespace Sys2Proof.Machine

variable (s : State)

@[simp] theorem State.enterContention_frame (b : Bool) :
    (s.enterContention b).requester = s.requester ∧ (s.enterContention b).staging = s.staging ∧
    (s.enterContention b).responder = s.responder ∧ (s.enterContention b).windows = s.windows ∧
    (s.enterContention b).target = s.target ∧ (s.enterContention b).peers = s.peers ∧
    (s.enterContention b).controller = s.controller ∧ (s.enterContention b).completions = s.completions ∧
    (s.enterContention b).notices = s.notices ∧ (s.enterContention b).hostPort = s.hostPort ∧
    (s.enterContention b).pending = s.pending := by
  simp [State.enterContention]

@[simp] theorem State.enterGap_frame (k : GapKind) :
    (s.enterGap k).requester = s.requester ∧ (s.enterGap k).staging = s.staging ∧
    (s.enterGap k).responder = s.responder ∧ (s.enterGap k).windows = s.windows ∧ (s.enterGap k).target = s.target ∧
    (s.enterGap k).peers = s.peers ∧ (s.enterGap k).controller = s.controller ∧
    (s.enterGap k).completions = s.completions ∧ (s.enterGap k).notices = s.notices ∧
    (s.enterGap k).hostPort = s.hostPort ∧ (s.enterGap k).pending = s.pending := by
  simp [State.enterGap]

@[simp] theorem State.enterReserved_frame :
    (s.enterReserved).requester = s.requester ∧ (s.enterReserved).staging = s.staging ∧
    (s.enterReserved).responder = s.responder ∧ (s.enterReserved).windows = s.windows ∧
    (s.enterReserved).target = s.target ∧ (s.enterReserved).peers = s.peers ∧
    (s.enterReserved).controller = s.controller ∧ (s.enterReserved).completions = s.completions ∧
    (s.enterReserved).notices = s.notices ∧ (s.enterReserved).hostPort = s.hostPort ∧
    (s.enterReserved).pending = s.pending := by
  simp [State.enterReserved]

@[simp] theorem State.clearFaults_frame :
    (s.clearFaults).requester = s.requester ∧ (s.clearFaults).staging = s.staging ∧
    (s.clearFaults).responder = s.responder ∧ (s.clearFaults).windows = s.windows ∧
    (s.clearFaults).target = s.target ∧ (s.clearFaults).peers = s.peers ∧ (s.clearFaults).controller = s.controller ∧
    (s.clearFaults).completions = s.completions ∧ (s.clearFaults).notices = s.notices ∧
    (s.clearFaults).hostPort = s.hostPort ∧ (s.clearFaults).pending = s.pending := by
  simp [State.clearFaults]

@[simp] theorem State.beaconSent_frame (b : OwnBeacon) :
    (s.beaconSent b).requester = s.requester ∧ (s.beaconSent b).staging = s.staging ∧
    (s.beaconSent b).windows = s.windows ∧ (s.beaconSent b).target = s.target ∧
    (s.beaconSent b).completions = s.completions ∧ (s.beaconSent b).hostPort = s.hostPort ∧
    (s.beaconSent b).pending = s.pending := by
  unfold State.beaconSent
  (repeat' split) <;> simp

@[simp] theorem State.countFault_frame (k : Layout) :
    (s.countFault k).requester = s.requester ∧ (s.countFault k).staging = s.staging ∧
    (s.countFault k).responder = s.responder ∧ (s.countFault k).windows = s.windows ∧
    (s.countFault k).target = s.target ∧ (s.countFault k).peers = s.peers ∧
    (s.countFault k).controller = s.controller ∧ (s.countFault k).completions = s.completions ∧
    (s.countFault k).notices = s.notices ∧ (s.countFault k).hostPort = s.hostPort ∧
    (s.countFault k).pending = s.pending := by
  simp [State.countFault]

@[simp] theorem State.beaconAbandoned_frame (b : OwnBeacon) :
    (s.beaconAbandoned b).requester = s.requester ∧ (s.beaconAbandoned b).staging = s.staging ∧
    (s.beaconAbandoned b).responder = s.responder ∧ (s.beaconAbandoned b).windows = s.windows ∧
    (s.beaconAbandoned b).target = s.target ∧ (s.beaconAbandoned b).link = s.link ∧
    (s.beaconAbandoned b).peers = s.peers ∧ (s.beaconAbandoned b).completions = s.completions ∧
    (s.beaconAbandoned b).notices = s.notices ∧ (s.beaconAbandoned b).hostPort = s.hostPort ∧
    (s.beaconAbandoned b).pending = s.pending := by
  unfold State.beaconAbandoned
  (repeat' split) <;> simp

@[simp] theorem State.endHeard_frame (b : Bool) :
    (s.endHeard b).requester = s.requester ∧ (s.endHeard b).staging = s.staging ∧ (s.endHeard b).windows = s.windows ∧
    (s.endHeard b).target = s.target ∧ (s.endHeard b).peers = s.peers ∧ (s.endHeard b).controller = s.controller ∧
    (s.endHeard b).completions = s.completions ∧ (s.endHeard b).notices = s.notices ∧
    (s.endHeard b).hostPort = s.hostPort ∧ (s.endHeard b).pending = s.pending := by
  unfold State.endHeard
  (repeat' split) <;> simp

@[simp] theorem State.countBadFrame_frame :
    (s.countBadFrame).requester = s.requester ∧ (s.countBadFrame).staging = s.staging ∧
    (s.countBadFrame).responder = s.responder ∧ (s.countBadFrame).windows = s.windows ∧
    (s.countBadFrame).target = s.target ∧ (s.countBadFrame).peers = s.peers ∧
    (s.countBadFrame).controller = s.controller ∧ (s.countBadFrame).completions = s.completions ∧
    (s.countBadFrame).notices = s.notices ∧ (s.countBadFrame).hostPort = s.hostPort ∧
    (s.countBadFrame).pending = s.pending := by
  simp [State.countBadFrame]

@[simp] theorem State.deliverFrame_frame (f : Frame) (b : Bool) :
    (s.deliverFrame f b).windows = s.windows ∧ (s.deliverFrame f b).target = s.target ∧
    (s.deliverFrame f b).completions = s.completions ∧ (s.deliverFrame f b).hostPort = s.hostPort ∧
    (s.deliverFrame f b).pending = s.pending := by
  unfold State.deliverFrame
  dsimp only
  (repeat' split) <;> simp

@[simp] theorem State.receive_frame (h : Heard) :
    (s.receive h).windows = s.windows ∧ (s.receive h).target = s.target ∧ (s.receive h).completions = s.completions ∧
    (s.receive h).hostPort = s.hostPort ∧ (s.receive h).pending = s.pending := by
  unfold State.receive
  (repeat' split) <;> simp

@[simp] theorem State.endTail_frame :
    (s.endTail).requester = s.requester ∧ (s.endTail).staging = s.staging ∧ (s.endTail).windows = s.windows ∧
    (s.endTail).target = s.target ∧ (s.endTail).peers = s.peers ∧ (s.endTail).controller = s.controller ∧
    (s.endTail).completions = s.completions ∧ (s.endTail).notices = s.notices ∧ (s.endTail).hostPort = s.hostPort ∧
    (s.endTail).pending = s.pending := by
  simp [State.endTail]

end Sys2Proof.Machine
end

