-- ==== Sys2Proof/Laws/Safety.lean ====
section
/-! SUPPORT. When the shared checks of the station change nothing: the leaving sequence outside LEAVING, and the consequences that
are due when none is. -/

namespace Sys2Proof.Machine

/-- Outside LEAVING the end condition of LEAVING is not looked at. -/
theorem State.checkLeaving_of_not_leaving {s : State} (h : s.controller.station ≠ .leaving) : s.checkLeaving = s := by
  simp [State.checkLeaving, State.leavingEnds, h]

/-- With no record due, no record falls silent. -/
theorem State.silenceAll_of_none : ∀ (n : Nat) {s : State}, s.firstSilent = none → State.silenceAll n s = s
  | 0, _, _ => rfl
  | n + 1, s, h => by simp [State.silenceAll, h]

/-- With nothing due, taking what is due changes nothing. -/
theorem State.takeDue_of_nothingDue {s : State} (h : s.nothingDue) : s.takeDue = s := by
  obtain ⟨silent, faults, lost, answer⟩ := h
  have first : s.firstSilent = none := by simp [State.firstSilent, List.find?_eq_none, silent]
  have fault : s.takeDueFault = s := if_neg (Nat.not_le.2 faults)
  have age : s.takeDueAgeing = s := by
    have : s.ageingDue = false := decide_eq_false (Nat.not_le.2 lost)
    simp [State.takeDueAgeing, this]
  have timer : s.takeDueAnswer = s := by
    unfold State.takeDueAnswer
    split
    · rename_i i hi
      rcases answer with none | notDue
      · simpa [none] using (lowestOf_eq_some hi).1
      · simp [notDue]
    · rfl
  simp only [State.takeDue, State.silenceAll_of_none _ first, fault, age, timer]

end Sys2Proof.Machine
end

