-- ==== Sys2Proof/Tests/Slice0.lean ====
section
/-! SUPPORT. Tests of the model: the well-formedness smoke test, values the manual works out, one-step checks, and for each statement
with hypotheses a state and operands that meet them. -/

namespace Sys2Proof.Tests

open Sys2Proof.Machine

/-! ### Well-formedness: one ill-formed term for each check -/

theorem test_wf_no_strobe : WellFormed (.peerIndexWrite 3 ⟨false, false⟩) = false := by decide
theorem test_wf_not_a_configuration_word : WellFormed (.configurationWrite 0x3A 0 ⟨true, true⟩) = false := by decide
theorem test_wf_word_seven_of_a_window : WellFormed (.configurationWrite 0x47 0 ⟨true, true⟩) = false := by decide
theorem test_wf_not_a_staging_word : WellFormed (.stagingWrite 0xC0 0 ⟨true, true⟩) = false := by decide
theorem test_wf_configuration_word_as_register : WellFormed (.registerWrite 0x30 0 ⟨true, true⟩) = false := by decide
theorem test_wf_assigned_code : WellFormed (.unassignedCommandCode 11) = false := by decide
theorem test_wf_empty_frame : WellFormed (.frameReceived ⟨[], true⟩) = false := by decide
theorem test_wf_no_termination_signal : WellFormed (.targetTermination ⟨none, false, false, 0⟩) = false := by decide
theorem test_wf_edges :
    (WellFormed (.configurationWrite 0x7E 0 ⟨false, true⟩) && WellFormed (.stagingWrite 0xBF 0 ⟨true, false⟩) &&
      WellFormed (.registerWrite 0x06 0 ⟨true, true⟩) && WellFormed (.unassignedCommandCode 12)) = true := by decide

/-! ### Values the manual gives -/

/-- The check value of R138: the characters "1" to "9" give 0x29B1. -/
theorem test_crc_check_value :
    crc16 [0x31, 0x32, 0x33, 0x34, 0x35, 0x36, 0x37, 0x38, 0x39] = 0x29B1 := by decide +kernel

/-- The contention codes of the example in Span Access and Frames. -/
theorem test_contention_codes :
    contentionCode 7 11 = 0x0B ∧ contentionCode 5 20 = 0x54 ∧ contentionCode 2 4 = 0xA4 ∧ contentionCode 5 4 = 0x44 := by
  decide

/-- The character of the sync byte 0x96, written out by R127. -/
theorem test_character :
    character 0x96 = [.dominant, .recessive, .dominant, .dominant, .recessive, .dominant, .recessive, .recessive, .dominant,
      .recessive] := by decide

/-- Two characters heard and then a recessive line; a dominant stop bit is a framing error (R127). -/
theorem test_line_heard :
    hearLine (lineLevels [0x96, 0x01] ++ [.recessive, .dominant]) = ⟨[0x96, 0x01], false⟩ ∧
      hearLine (List.replicate 10 .dominant) = ⟨[0], true⟩ := by decide

/-- The size table of R114, a row each. -/
theorem test_cycle_sizes :
    cycleSize 4 4 8 = 4 ∧ cycleSize 4 3 8 = 2 ∧ cycleSize 4 1 8 = 1 ∧ cycleSize 2 16 8 = 2 ∧ cycleSize 4 16 6 = 2 ∧
      cycleSize 4 1 6 = 1 ∧ cycleSize 4 16 5 = 1 := by decide

/-- No row of the table gives bits, so no word spells a command. -/
theorem test_no_word_spells_a_command : decodeTableWord 16 0 = none := by decide

/-- Words written to the command register, their codes and arguments from the table of 12.3. -/
theorem test_command_words :
    commandOf 0x0001 = .push ∧ commandOf 0x0705 = .leave ∧ commandOf 0x0206 = .quiet 2 ∧ commandOf 0xFF08 = .abort 255 ∧
      commandOf 0x000B = .softReset ∧ commandOf 0x010C = .unassignedCommandCode 12 ∧
      commandOf 0x0100 = .unassignedCommandCode 0 := by decide

/-- Writes go to the rows of their register groups, and an access with no byte strobe is none. -/
theorem test_host_writes :
    hostWrite 0x39 7 ⟨true, true⟩ = some (.configurationWrite 0x39 7 ⟨true, true⟩) ∧
      hostWrite 0x3A 7 ⟨true, true⟩ = some (.registerWrite 0x3A 7 ⟨true, true⟩) ∧
      hostWrite 0x80 7 ⟨false, true⟩ = some (.stagingWrite 0x80 7 ⟨false, true⟩) ∧
      hostWrite 0x08 7 ⟨true, false⟩ = some (.peerIndexWrite 7 ⟨true, false⟩) ∧
      hostWrite 0x08 7 ⟨false, false⟩ = none := by decide

/-! ### States the tests start from -/

/-- A station in a state of the span, its configuration locked, with peer 1 PRESENT and the medium IDLE. -/
def on (st : StationState) : State :=
  { State.reset with
    controller := { State.reset.controller with station := st, locked := true, beaconTimer := some 10 }
    link := { State.reset.link with ownDigest := some 0x1234, medium := .idle, gap := .ordinary }
    peers := State.reset.peers.set 1 { state := .present, silenceCount := 0, lastSequence := none } }

/-- A 20-byte transaction to station 1 in a slot state. -/
def record (st : SlotState) (k : DescriptorKind) : Slot :=
  { Slot.freed 1 with
    state := st, firstFlag := true, offered := some 16
    descriptor := { kind := k, destination := 1, remoteAddress := 0x1000, length := 20, stagingOffset := 8, urgency := 3,
                    cookie := 7, notify := true } }

/-- The state with one slot replaced. -/
def withSlot (s : State) (i : Tag) (x : Slot) : State :=
  { s with requester := { s.requester with slots := s.requester.slots.set i x } }

/-- The state with the medium, its layout and its gap as given. -/
def line (s : State) (m : Medium) (l : Layout) (g : GapKind) : State :=
  { s with link := { s.link with medium := m, layout := l, gap := g } }

/-- The state with a frame in the transmit register. -/
def loaded (s : State) (f : TxFrame) (begun : Bool) : State := { s with link := { s.link with tx := some f, begun := begun } }

/-- A WRITE of two bytes from station 1, or a READ of two. -/
def seg (op : Op) : Segment :=
  { op := op, firstFlag := true, urgency := 3, destination := 0, source := 1, tag := 2, generation := 1, offset := 0,
    address := 0x1000, length := 2
    data := match op with
      | .read => []
      | .write => [0xAA, 0xBB] }

/-- An ANSWER to slot 0's READ of 16 bytes. -/
def takenAnswer : Answer :=
  { destination := 0, source := 1, tag := 0, generation := 1, offset := 0, code := .taken, cause := 0, count := 2,
    data := [0x11, 0x22] }

/-- A beacon of this station. -/
def ownBeacon (b : BeaconState) : OwnBeacon := { state := b, wakeLevel := 2, sequence := 5, digest := 0x1234 }

/-- A frame heard without framing error. -/
def heard (bs : List Byte) : Heard := ⟨bs, false⟩

/-- A context serving `seg op` in a state. -/
def entry (op : Op) (st : ContextState) (owed : Bool) : Context :=
  { Context.empty with
    state := st, requester := 1, tag := 2, generation := 1, op := op, address := 0x1000, window := 0, lengthInWindow := 2,
    answerOwed := owed }

/-- The state with context 0 replaced. -/
def withContext (s : State) (c : Context) : State :=
  { s with responder := { s.responder with contexts := s.responder.contexts.set 0 c } }

/-- A 256-byte window at span address 0x1000 that admits everything. -/
def openWindow : WindowEntry :=
  { valid := true, sizeExponent := 8, access := 3, widthCap := 3, burst := true, prefetchable := false, spanBase := 0x1000,
    localBase := 0x2000, requesterMask := 0xFFFFFFFF }

/-- The state with window 0 open. -/
def withWindow (s : State) : State := { s with windows := s.windows.set 0 openWindow }

/-- The target bus unit serving context 0 in a READ cycle of size 2. -/
def busy (s : State) (m : Monitor) : State :=
  { s with target := { s.target with
      current := some 0, held := some { spanBase := 0x1000, localBase := 0x2000, widthCap := 4, burst := true },
      cycle := some { address := 0x2000, size := 2, write := false, attempt := 1 }, monitor := m } }

/-- The state a command answers. -/
def after (c : Instr) (s : State) : State :=
  match exec c s with
  | .next t => t
  | .fault _ => s
  | .refused _ => s

/-! ### One step of each kind -/

/-- PUSH of 256 bytes ending at the last byte of staging memory is accepted; one byte further is not (R3). -/
def built (length offset : Word) : State :=
  { State.reset with hostPort := { State.reset.hostPort with
      build := { DescriptorBuild.zero with kind := 1, destination := 1, length := length, stagingOffset := offset } } }
theorem test_push_edge :
    (after .push (built 256 7936)).requester.queue.length = 1 ∧
      (after .push (built 256 7937)).hostPort.result = .refusedInvalid ∧
      (after .push (built 257 0)).hostPort.result = .refusedInvalid ∧
      (after .push (built 0 0)).hostPort.result = .refusedInvalid := by decide
theorem test_push_own_number :
    (after .push { built 4 0 with controller := Controller.cold 1 }).hostPort.result = .refusedInvalid := by decide

/-- JOIN from reset finds the cold defaults in range and no window valid (R161, R162). -/
theorem test_join_from_reset :
    (after .join State.reset).controller.station = .listening ∧ (after .join State.reset).controller.locked = true := by
  decide +kernel

/-- A QUIET argument of 7 is taken, 8 is not (R167). -/
theorem test_quiet_edge :
    (after (.quiet 7) (on .active)).controller.station = .quiet 7 ∧
      (after (.quiet 8) (on .active)).hostPort.result = .refusedInvalid := by decide

/-- A host write of one half keeps the other, and a zero byte is not listed (R191). -/
theorem test_staging_halves :
    (after (.stagingWrite 0x81 0xBEEF ⟨true, false⟩) State.reset).staging = [(2, 0xEF)] ∧
      (after (.stagingWrite 0xBF 0xBE00 ⟨true, true⟩) State.reset).staging = [(127, 0xBE)] := by decide

/-- RESETN asserted: a JOIN is lost and a parameter reads as zero; after its release both are taken (R187). -/
theorem test_accesses_in_reset :
    (after .join (after (.coldReset ⟨3, 1⟩ true) State.reset)).controller.station = .offline ∧
      (after (.coldReset ⟨3, 1⟩ true) State.reset).hostRead 0x30 = 0 ∧
      (after (.coldReset ⟨3, 1⟩ false) (after (.coldReset ⟨3, 1⟩ true) State.reset)).hostRead 0x30 = 40 := by
  decide +kernel

/-- A slot sent before counts a retry (R30). -/
theorem test_sent_again_is_a_retry :
    ((after .frameSentInFull
        (line (loaded (withSlot (on .active) 0 { record .contending .read with sentHere := true })
          (.segment 0 (seg .read)) true) .transmitting .contended .ordinary)).slot 0).retries = 1 := by decide

/-- A four-byte device acknowledges two bytes of a two-byte cycle on lanes 0 and 1 (R117). -/
theorem test_acknowledge_collects_lanes :
    ((after (.targetTermination ⟨some 3, false, false, 0x44332211⟩)
        (busy (withContext (on .active) (entry .read .cycling true)) (.termination 16))).context 0).data.toList.take 3 =
      [0x11, 0x22, 0] := by decide

/-- A segment's bytes and their reading agree (R127). -/
theorem test_segment_on_the_line :
    readFrame .contended (heard (segmentFrame 0x8B (seg .write))) = .good (.segment (seg .write)) := by decide +kernel

/-! ### Witnesses: states and operands that meet the hypotheses of each statement, a conjunct for each clause -/

theorem witness_StepIdlesWithNoCommand : State.reset.pending = [] := by decide

theorem witness_CommandsLeaveTheQueue : exec .clearFlags State.reset = .next (after .clearFlags State.reset) := rfl

theorem witness_OnlyTheseCommandsChangeIt :
    exec .wake State.reset = .next (after .wake State.reset) ∧ ∀ straps held, Instr.wake ≠ .coldReset straps held :=
  ⟨rfl, fun _ _ h => by cases h⟩

theorem witness_PushTakesOrRefusesTheDescriptor :
    ((built 256 7936).hostPort.resetAsserted = false ∧ (built 256 7936).hostPort.build.kind = 1 ∧
      (built 256 7936).hostPort.build.destination.toNat ≠ State.reset.own.val ∧
      (built 256 7936).hostPort.build.stagingOffset.toNat + 256 ≤ 8192 ∧ (built 256 7936).requester.queue.length < 16) ∧
    State.reset.hostPort.build.kind = 0 ∧
    16 ≤ (List.replicate 16 Descriptor.zero).length := by decide

def flagged : CompletionRecord := (record (.done .ok 0) .read).record 0 .ok
def notice : Notice := { kind := .joined, station := 0, detail := .number 0 }
theorem witness_PopsRemoveTheHead :
    State.reset.hostPort.resetAsserted = false ∧
      { Completions.reset with records := [flagged], notifyCount := 1 }.records = flagged :: [] ∧
      State.reset.completions.records = [] ∧ { Notices.reset with records := [notice] }.records = notice :: [] ∧
      State.reset.notices.records = [] := by decide

theorem witness_JoinLocksAndListens :
    State.reset.hostPort.resetAsserted = false ∧ State.reset.controller.station = .offline ∧
      (∀ p, State.reset.parameterInRange p = true) ∧
      (withWindow State.reset).windows[0].valid = true ∧ openWindow.wellFormed = true := by decide

/-- AW at 3, below its range. -/
def lowWindow : State :=
  { State.reset with controller := { State.reset.controller with
      parameters := State.reset.controller.parameters.set 0 3 } }
theorem witness_JoinNamesTheFirstFault :
    ((on .active).hostPort.resetAsserted = false ∧ (on .active).controller.station ≠ .offline) ∧
    (lowWindow.hostPort.resetAsserted = false ∧ lowWindow.controller.station = .offline ∧
      lowWindow.parameterInRange 0 = false) ∧
    ({ openWindow with sizeExponent := 25 } : WindowEntry).wellFormed = false := by decide

theorem witness_LeaveReturnsToOffline :
    (∀ st ∈ [StationState.listening, .isolated, .leaving],
      (on st).hostPort.resetAsserted = false ∧ (on st).controller.station = st) ∧
    State.reset.hostPort.resetAsserted = false ∧ State.reset.controller.station = .offline := by decide

/-- Slot 0 waits and slot 1, begun, is in flight. -/
def twoSlots (st : StationState) : State :=
  withSlot (withSlot (on st) 0 (record .ready .read)) 1 { record (.awaiting 40) .read with dispatchSeq := 1 }
theorem witness_LeaveStartsTheLeavingSequence :
    ((twoSlots .active).hostPort.resetAsserted = false ∧ (twoSlots .active).controller.station = .active ∧
      (twoSlots .active).waiting 0 = true ∧ (twoSlots .active).inFlight 1 = true ∧
      (twoSlots .active).link.begun = false) ∧
    ((on (.quiet 7)).controller.station = .quiet 7 ∧ (∀ i, (on (.quiet 7)).inFlight i = false)) ∧
    ((on .leaving).leavingEnds = true ∧ (on .leaving).leavingBeaconQueued = false) ∧
    (twoSlots .leaving).leavingEnds = false := by decide

theorem witness_QuietAndWakeQueueTheirBeacons :
    (on .active).hostPort.resetAsserted = false ∧
      (on .active).controller.station = .active ∧ (on (.quiet 0)).controller.station = .quiet 0 ∧ 7 < (8 : Byte).toNat ∧
      State.reset.controller.station ≠ .active ∧ (∀ k, State.reset.controller.station ≠ .quiet k) := by decide

theorem witness_AbortActsByTheSlotState :
    7 < (8 : Byte).toNat ∧ ((on .active).slot 7).state.isFree = true ∧ (twoSlots .active).inFlight 1 = true ∧
      (twoSlots .active).hostPort.resetAsserted = false ∧
      ((twoSlots .active).slot 0).state.isFree = false ∧ ((twoSlots .active).slot 0).state.isDone = false ∧
      (twoSlots .active).inFlight 0 = false := by decide

theorem witness_AbortAllEndsWaitingSlotsAndDrains :
    (twoSlots .active).hostPort.resetAsserted = false ∧ (twoSlots .active).waiting 0 = true ∧
      (twoSlots .active).inFlight 1 = true := by decide

theorem witness_ClearFlagsAndUnassignedCodes :
    State.reset.hostPort.resetAsserted = false ∧ (0 : Byte).toNat = 0 ∧ 12 ≤ (12 : Byte).toNat ∧
      hostWrite 0x00 0x0001 ⟨true, false⟩ = some .push ∧ isConfigurationAddress 0x7E = true ∧ isStagingAddress 0xBF = true ∧
      isPlainAddress 0x06 = true := by decide

theorem witness_ResetsLeaveTheirValues :
    State.reset.hostPort.resetAsserted = false ∧
      (after (.coldReset ⟨3, 1⟩ true) State.reset).hostPort.resetAsserted = true ∧
      hostWrite 0x00 0x0004 ⟨true, true⟩ = some .join ∧ hostReadCapture 0x02 = some .statusCapture := by decide

theorem witness_ConfigurationWritesNeedOffline :
    isConfigurationAddress 0x30 = true ∧ isConfigurationAddress 0x7E = true ∧ Lanes.wellFormed ⟨false, true⟩ = true ∧
      ((on .active).hostPort.resetAsserted = false ∧ (on .active).controller.station ≠ .offline) ∧
      State.reset.hostPort.resetAsserted = false ∧ State.reset.controller.station = .offline := by decide

theorem witness_StagingWriteStoresTheStrobedBytes :
    State.reset.hostPort.resetAsserted = false ∧ State.reset.stagingCanonical := by decide

theorem witness_RegisterWritesStoreListedBits :
    State.reset.hostPort.resetAsserted = false ∧
      isPlainAddress 0x10 = true ∧ isPlainAddress 0x18 = true ∧ isPlainAddress 0x06 = true ∧ isPlainAddress 0x07 = true ∧
      isPlainAddress 0xFF = true := by decide

theorem witness_ViewsAreReadAsSnapshots :
    State.reset.hostPort.resetAsserted = false ∧ Lanes.wellFormed ⟨false, true⟩ = true ∧
      (after .statusCapture State.reset).hostPort.statusCapture = some State.reset.statusItems ∧
      (after .completionHeadCapture State.reset).completions.capture = some none ∧
      (after .noticeHeadCapture State.reset).notices.capture = some none ∧
      (after .peerRecordCapture State.reset).hostPort.peerCapture = some (State.reset.peer 0) ∧
      State.reset.hostPort.peerCapture = none ∧ State.reset.notices.capture = none ∧
      State.reset.completions.capture = none ∧ State.reset.hostPort.statusCapture = none ∧
      State.reset.link.crcErrors ≤ 65535 ∧ (0xC0 ≤ (0xC0 : Byte).toNat) ∧ (0x47 : Byte).toNat % 8 = 7 ∧
      (State.reset.statusItems.requestCount ≤ 16 ∧ State.reset.statusItems.completions ≤ 16 ∧
        State.reset.statusItems.notices ≤ 8 ∧ State.reset.statusItems.transmitFaults ≤ 4) ∧
      ((record .free .read).record 0 .ok).bytesDone ≤ 256 ∧ (State.reset.peer 0).silenceCount ≤ 3 := by decide

theorem witness_HintFollowsItsTerms : State.reset.hostPort.resetAsserted = false := by decide

/-- A READ to station 1 at the head of the queue. -/
def queued (st : StationState) : State :=
  { on st with requester := { (on st).requester with queue := [(record .free .read).descriptor] } }
theorem witness_DispatchFillsTheLowestFreeSlot :
    (queued .active).controller.station = .active ∧ (queued .active).requester.drainCount = 0 ∧
      (queued .active).requester.fenceWait = false ∧ ((queued .active).slot 0).state = .free ∧
      ((queued .active).peer 1).state = .present ∧
      (∀ j, j ≠ 0 → ((queued .active).slot j).state.isFree = true) := by decide

theorem witness_DispatchIsHeldBack :
    State.reset.requester.queue = [] ∧ (queued .listening).controller.station ≠ .active := by decide

theorem witness_CompletionWriteTakesTheOldestDoneSlot :
    ((withSlot (on .active) 7 (record (.done .ok 4) .read)).slot 7).state = .done .ok 4 ∧
      (∀ j, j ≠ 7 → ((withSlot (on .active) 7 (record (.done .ok 4) .read)).slot j).state.isDone = false) ∧
      (∀ i, (State.reset.slot i).state.isDone = false) := by decide

theorem witness_DirectCompletionTakesTheHead :
    ((queued .isolated).requester.queue = [(record .free .read).descriptor] ∧
      (queued .isolated).completions.records.length < 16 ∧ (∀ i, ((queued .isolated).slot i).state.isDone = false) ∧
      (queued .isolated).requester.drainCount = 0 ∧ (queued .isolated).controller.station = .isolated) ∧
    (∃ i, ((withSlot (on .active) 7 (record (.done .ok 4) .read)).slot i).state.isDone = true) ∧
    ((on .active).controller.station = .active ∧ ∀ i, ((on .active).slot i).state = .free) := by decide

def pendingQuiet : State :=
  { on (.quiet 2) with controller := { (on (.quiet 2)).controller with
      pendingBeacon := some { state := .quiet, wakeLevel := 2 } } }
theorem witness_LoadTakesThePendingBeacon :
    (pendingQuiet.link.tx = none ∧ pendingQuiet.transmitterOn = true ∧
      pendingQuiet.controller.pendingBeacon = some { state := .quiet, wakeLevel := 2 }) ∧
    (loaded (on .active) (.beacon (ownBeacon .active)) false).link.tx = some (.beacon (ownBeacon .active)) ∧
    (on .listening).transmitterOn = false := by decide

theorem witness_LoadBuildsTheMostUrgentSegment :
    let s := withSlot (on .active) 3 (record .ready .write)
    s.link.tx = none ∧ s.controller.station = .active ∧ s.controller.pendingBeacon = none ∧
      (∀ j, (s.slot j).state.isAwaiting = false) ∧ (s.slot 3).state = .ready ∧
      (∀ j, j ≠ 3 → (s.slot j).state.isReady = false) ∧
      (∀ st ∈ [StationState.quiet 3, .leaving],
        (on st).link.tx = none ∧ (on st).controller.pendingBeacon = none ∧ (on st).controller.station ≠ .active) ∧
      (∀ j, ((on .active).slot j).state ≠ .ready) ∧
      ((withSlot s 0 (record (.awaiting 40) .read)).slot 0).state.isAwaiting = true := by decide

/-- Slot 0 awaits its answer, its no-answer count as given. -/
def awaiting (n : Nat) : State := withSlot (on .active) 0 { record (.awaiting 40) .read with noAnswerCount := n }
theorem witness_AnswerTimerExpiryBacksOffOrEnds :
    (((awaiting 2).slot 0).state = .awaiting 40 ∧ (∀ j, j ≠ 0 → ((awaiting 2).slot j).state.isAwaiting = false) ∧
      (awaiting 2).link.medium ≠ .receiving ∧
      ((awaiting 2).slot 0).bytesDone ≠ ((awaiting 2).slot 0).descriptor.length ∧
      ((awaiting 2).slot 0).abortMark = false ∧ ((awaiting 2).slot 0).deferred = none) ∧
    2 + 1 ≤ (awaiting 2).nl ∧ (awaiting 3).nl < 3 + 1 ∧ (∀ j, ((awaiting 3).slot j).state.isBehind = false) := by decide

/-- Slot 0 backs off to a peer in a state. -/
def backing (p : PeerState) : State :=
  let s := withSlot (on .active) 0 (record (.backoff 50) .read)
  { s with peers := s.peers.set 1 (PeerRecord.cleared p) }
theorem witness_BackoffExpiryPlacesTheSlot :
    (∀ p ∈ [PeerState.present, .quiet 3, .absent, .silent, .mismatched],
      ((backing p).slot 0).state = .backoff 50 ∧ ((backing p).peer 1).state = p) := by decide

theorem witness_ExchangeCloseWeighsInOrder :
    let x := record (.awaiting 40) .read
    x.bytesDone ≠ x.descriptor.length ∧ x.abortMark = false ∧ x.deferred = none ∧
      ({ x with bytesDone := 20 } : Slot).bytesDone = x.descriptor.length ∧
      (∀ p ∈ [PeerState.present, .quiet 3, .absent, .silent, .mismatched],
        ((backing p).peer ((backing p).slot 0).descriptor.destination).state = p) := by decide

/-- Slot 0 is active and slot 1 stands behind it, to a peer in a state. -/
def behindOne (p : PeerState) : State :=
  let s := withSlot (withSlot (on .active) 0 (record .ready .read)) 1 { record .behind .read with dispatchSeq := 1 }
  { s with peers := s.peers.set 1 (PeerRecord.cleared p) }
theorem witness_EntryToDoneReleasesTheNext :
    (∀ p ∈ [PeerState.present, .quiet 3, .absent, .silent, .mismatched],
      ((behindOne p).slot 1).state = .behind ∧
        ((behindOne p).slot 1).descriptor.destination = ((behindOne p).slot 0).descriptor.destination ∧
        (∀ k, k ≠ 0 → k ≠ 1 → ((behindOne p).slot k).state.isActive = false ∧
          ((behindOne p).slot k).state.isBehind = false) ∧
        ((behindOne p).peer 1).state = p) ∧
    (∀ k, k ≠ 0 → ((backing .present).slot k).state.isBehind = false) ∧
    ((twoSlots .active).slot 1).state.isActive = true ∧
      ((twoSlots .active).slot 1).descriptor.destination = ((twoSlots .active).slot 0).descriptor.destination := by decide

def replying : State := line (awaiting 0) .receiving .replySlot .ordinary
theorem witness_TakenReadDataReachesStaging :
    (replying.nothingDue ∧ replying.stagingCanonical ∧
      replying.link.followTail = false ∧
      readFrame .replySlot (heard (answerFrame takenAnswer)) = .good (.answer takenAnswer) ∧
      (replying.slot 0).state = .awaiting 40 ∧ (∀ j, j ≠ 0 → (replying.slot j).state.isAwaiting = false) ∧
      takenAnswer.destination = replying.own ∧ takenAnswer.source = (replying.slot 0).descriptor.destination ∧
      takenAnswer.generation = (replying.slot 0).generation ∧ takenAnswer.offset.toNat = (replying.slot 0).bytesDone ∧
      (replying.slot 0).descriptor.kind = .read ∧
      (replying.slot 0).offered = some 16 ∧ takenAnswer.data.length = takenAnswer.count.toNat ∧
      1 ≤ takenAnswer.count.toNat ∧ takenAnswer.count.toNat ≤ 16 ∧ takenAnswer.source ≠ replying.own ∧
      (replying.slot 0).descriptor.stagingOffset + (replying.slot 0).bytesDone + takenAnswer.count.toNat ≤ 8192 ∧
      (replying.slot 0).abortMark = false ∧ (replying.slot 0).deferred = none ∧
      (replying.slot 0).bytesDone + takenAnswer.count.toNat ≠ (replying.slot 0).descriptor.length ∧
      20 - takenAnswer.count.toNat + takenAnswer.count.toNat = (replying.slot 0).descriptor.length ∧
      (replying.peer takenAnswer.source).state = .present ∧ (∀ j, (replying.slot j).state.isBehind = false)) ∧
    (∀ p ∈ [PeerState.quiet 3, .absent, .silent],
      let s : State := { replying with peers := replying.peers.set 1 (PeerRecord.cleared p) };
      (s.peer takenAnswer.source).state = p ∧ s.nothingDue) ∧
    (let x : Slot := { replying.slot 0 with abortMark := true };
      (withSlot replying 0 x).nothingDue ∧ ((withSlot replying 0 x).slot 0).abortMark = true) ∧
    (let x : Slot := { replying.slot 0 with deferred := some .peerLeft };
      (withSlot replying 0 x).nothingDue ∧ ((withSlot replying 0 x).slot 0).deferred = some .peerLeft) ∧
    (let s := withSlot replying 0 (record (.awaiting 40) .write);
      (s.slot 0).descriptor.kind = .write ∧ s.nothingDue ∧
        readFrame .replySlot (heard (answerFrame { takenAnswer with data := [] })) =
          .good (.answer { takenAnswer with data := [] })) := by
  decide +kernel

theorem witness_HeldBusyAndRefusedTakeTheirCourses :
    (replying.nothingDue ∧ replying.link.layout = .replySlot ∧ (replying.peer 1).state ≠ .self ∧
      (replying.slot 0).state.isAwaiting = true ∧ replying.answerMatches takenAnswer 0 = true ∧
      replying.answerMatches { takenAnswer with tag := 1 } 0 = false) ∧
    ((line (on .active) .receiving .lateReply .ordinary).nothingDue ∧
      readFrame .lateReply (heard (answerFrame takenAnswer)) = .good (.answer takenAnswer) ∧
      takenAnswer.source ≠ (on .active).own) ∧
    ((awaiting 0).slot 0).bytesDone ≠ ((awaiting 0).slot 0).descriptor.length ∧ ((awaiting 0).slot 0).abortMark = false ∧
      ((awaiting 0).slot 0).deferred = none ∧ 31 + 1 ≤ (awaiting 0).hl ∧ (awaiting 0).hl < 32 + 1 ∧
      7 + 1 ≤ (awaiting 0).bl ∧ (awaiting 0).bl < 8 + 1 ∧ (8 : BitVec 4).toNat = Cause.malformed.code ∧
      9 ≤ (9 : BitVec 4).toNat ∧
    (({ (awaiting 0).slot 0 with abortMark := true } : Slot).abortMark = true ∧
      ({ (awaiting 0).slot 0 with deferred := some .peerSilent } : Slot).deferred = some .peerSilent) := by
  decide +kernel

/-- A beacon is loaded and the medium is as given, this station contending or not. -/
def contention (m : Medium) (driving : Bool) (lost : Nat) : State :=
  let s := line (loaded (on .active) (.beacon (ownBeacon .active)) false) m .contended .ordinary
  { s with link := { s.link with contending := driving, lostCount := lost } }
theorem witness_ContentionCourse :
    ((contention .idle false 0).nothingDue ∧ (contention .idle false 0).transmitterOn = true ∧
      (contention .idle false 0).link.tx = some (.beacon (ownBeacon .active)) ∧
      (contention .idle false 0).link.answerBegun = false) ∧
    ((on .active).nothingDue ∧ (on .active).link.tx = none) ∧
    ((contention .contention true 3).nothingDue ∧ (contention .contention true 3).link.contending = true ∧
      (contention .contention true 3).link.begun = false ∧ (contention .contention true 3).link.answerBegun = false) ∧
    4 ≤ (contention .contention false 4).link.lostCount ∧ (contention .contention true 3).link.lostCount < 4 ∧
    (contention .contention false 0).link.contending = false := by decide

/-- A frame of a kind is being transmitted in a station state. -/
def sending (st : StationState) (f : TxFrame) : State :=
  line (loaded (withSlot (on st) 0 (record .contending .read)) f true) .transmitting .contended .ordinary
/-- The answer is being transmitted. -/
def answering : State :=
  let s := line (on .active) .transmitting .replySlot .ordinary
  { s with link := { s.link with answer := some takenAnswer, answerBegun := true } }
theorem witness_FrameSentInFullByItsKind :
    (let s := sending .active (.segment 0 (seg .read));
      s.link.medium = .transmitting ∧ s.link.answerBegun = false ∧ s.link.tx = some (.segment 0 (seg .read))) ∧
    (let s := sending .leaving (.beacon (ownBeacon .active));
      s.link.medium = .transmitting ∧ s.link.answerBegun = false ∧ s.link.tx = some (.beacon (ownBeacon .active)) ∧
        (ownBeacon .active).state ≠ .leaving) ∧
    answering.link.medium = .transmitting ∧ answering.link.answerBegun = true ∧ answering.link.begun = false ∧
      answering.link.contending = false := by decide

theorem witness_LeavingBeaconEndsInOffline :
    let s := sending .leaving (.beacon (ownBeacon .leaving))
    s.link.medium = .transmitting ∧ s.link.answerBegun = false ∧ s.link.tx = some (.beacon (ownBeacon .leaving)) ∧
      s.controller.station = .leaving := by decide

theorem witness_FrameAbandonedByItsKind :
    (let s := sending .active (.segment 0 (seg .read));
      s.link.medium = .transmitting ∧ s.link.answerBegun = false ∧
        s.link.tx = some (.segment 0 (seg .read)) ∧ (s.slot 0).bytesDone ≠ (s.slot 0).descriptor.length ∧
        (s.slot 0).abortMark = false ∧ (s.slot 0).deferred = none ∧
        (s.peer (s.slot 0).descriptor.destination).state = .present ∧
        (({ s with peers := s.peers.set 1 (PeerRecord.cleared (.quiet 3)) } : State).peer
          (s.slot 0).descriptor.destination).state = .quiet 3) ∧
    (let s := sending .leaving (.beacon (ownBeacon .active));
      s.link.medium = .transmitting ∧ s.link.answerBegun = false ∧ s.link.tx = some (.beacon (ownBeacon .active))) ∧
    (answering.link.medium = .transmitting ∧ answering.link.answerBegun = true) ∧
    (∀ l ∈ [Layout.contended, .replySlot],
      let s := line (on .active) .receiving l .ordinary;
      let t : State := { s with link := { s.link with followTail := true, transmitFaults := 3 } };
      t.nothingDue ∧ t.link.medium = .receiving ∧ t.link.followTail = true) := by decide

/-- Four faults in a row. -/
def faulty (n : Nat) : State := { on .active with link := { (on .active).link with transmitFaults := n } }
theorem witness_ReportsIsolateTheStation :
    (faulty 3).link.transmitFaults < 4 ∧ ((faulty 4).receiverOn = true ∧ 4 ≤ (faulty 4).link.transmitFaults) ∧
    (let s := line (on .active) .receiving .contended .ordinary;
      s.receiverOn = true ∧ s.nothingDue ∧ s.link.followTail = false ∧
        readFrame .contended (heard (segmentFrame 0xE0 { seg .read with source := 0, destination := 1 })) =
          .good (.segment { seg .read with source := 0, destination := 1 })) ∧
    readFrame .contended (heard (frameOf [0xE0, 0x80, 1, 0, 8, 0, 0])) = .misplaced 0 ∧
    (contention .contention false 0).nothingDue ∧
    (let s : State := { faulty 4 with controller := (on .isolated).controller };
      s.controller.station = .isolated ∧ 4 ≤ s.link.transmitFaults) := by decide +kernel

/-- An ANSWER is placed and the medium reserved. -/
def reserved : State :=
  let s := line (on .active) .reserved .contended .ordinary
  { s with link := { s.link with answer := some takenAnswer } }
theorem witness_ReplySlotAndGap :
    (reserved.nothingDue ∧ reserved.link.medium = .reserved ∧ reserved.link.answer = some takenAnswer ∧
      reserved.transmitterOn = true) ∧
    ((on .active).nothingDue ∧ (on .active).link.medium ≠ .reserved) ∧
    ((line (on .active) .gap .contended .lateReply).receiverOn = true ∧
      (line (on .active) .gap .contended .lateReply).link.medium = .gap) ∧
    (on .active).link.medium ≠ .gap := by decide

theorem witness_DominantBitByTheMediumState :
    (line (on .active) .gap .contended .lateReply).nothingDue ∧ (line (on .listening) .gap .contended .first).nothingDue ∧
      reserved.nothingDue ∧ (contention .idle false 0).nothingDue := by decide

theorem witness_BadFramesAreCountedOnly :
    (let s := line (on .leaving) .receiving .contended .ordinary;
      s.nothingDue ∧ s.link.followTail = false ∧ readFrame .contended (heard [0x96, 0xE0]) = .failed) ∧
    ((contention .contention false 0).nothingDue ∧ (contention .contention false 0).link.contending = false) ∧
    replying.nothingDue ∧ readFrame .replySlot ⟨[0x96], true⟩ = .failed ∧
    readFrame .contended (heard (frameOf [0xE0, 0x80, 1, 2, 8, 0, 0])) = .misplaced 2 ∧
    readFrame .replySlot (heard (frameOf [0xC0, 31, 5, 0, 0, 0])) = .misplaced 31 ∧
    (2 : StationNo) ≠ (contention .contention false 0).own ∧ (31 : StationNo) ≠ replying.own := by decide +kernel

/-- A beacon of station 1 as heard: its state and whether its digest is the station's own. -/
def beaconHeard (b : BeaconState) (digest : Word) : Heard :=
  heard (beaconFrame 1 1 { state := b, wakeLevel := 7, sequence := 9, digest := digest })
/-- The beacon that reading gives. -/
def read (code : BitVec 2) (digest : Word) : Beacon :=
  { stateCode := code, wakeLevel := 7, source := 1, sequence := 9, digest := digest }
theorem witness_BeaconsHeardSetTheRecord :
    (let s := line (on .active) .contention .contended .ordinary;
      s.nothingDue ∧ s.link.contending = false ∧ s.link.followTail = false ∧ (s.peer 1).state ≠ .self ∧ (1 : StationNo) ≠ s.own ∧ s.link.ownDigest = some 0x1234) ∧
    readFrame .contended (beaconHeard .active 0x1234) = .good (.beacon (read 0 0x1234)) ∧
    readFrame .contended (beaconHeard .quiet 0x1234) = .good (.beacon (read 1 0x1234)) ∧
    readFrame .contended (beaconHeard .active 0x1235) = .good (.beacon (read 0 0x1235)) ∧
    readFrame .contended (beaconHeard .leaving 0x1235) = .good (.beacon (read 2 0x1235)) ∧
    readFrame .contended
        (heard (frameOf [1, 0xFE, 1, 9, 0x34, 0x12])) = .good (.beacon (read 3 0x1234)) := by decide +kernel

theorem witness_TransitionsReachTheActiveSlot :
    (∀ i, ((on .active).slot i).state.isActive = false) ∧
    (((awaiting 0).slot 0).state.isActive = true ∧ ((awaiting 0).slot 0).descriptor.destination = 1 ∧
      (∀ j, j ≠ 0 → ((awaiting 0).slot j).state.isActive = false) ∧ (awaiting 0).inFlight 0 = true) ∧
    (((backing .present).slot 0).state.isActive = true ∧ (backing .present).inFlight 0 = false ∧
      (3 : Urgency) ≤ 3 ∧ (2 : Urgency) < ((backing .present).slot 0).descriptor.urgency) ∧
    ((withSlot (on .active) 0 (record .parked .read)).slot 0).state = .parked ∧
    (((behindOne .silent).slot 0).state.isActive = true ∧ (behindOne .silent).inFlight 0 = false ∧
      ((behindOne .silent).slot 1).state = .behind ∧ ((behindOne .silent).slot 1).descriptor.destination = 1 ∧
      ((behindOne .silent).peer 1).state = .silent) := by decide

/-- Stations 1 and 31 unheard for three ticks, with `n` notices queued. -/
def unheard (n : Nat) : State :=
  let p := ({ state := .present, silenceCount := 3, lastSequence := none } : PeerRecord)
  { on .active with peers := ((on .active).peers.set 1 p).set 31 p
                    notices := { Notices.reset with records := List.replicate n notice } }
theorem witness_SilentPeersArePostedInOrder :
    (unheard 7).notices.records.length < 8 ∧ 8 ≤ (unheard 8).notices.records.length ∧
      ((unheard 7).silenceDue 1 = true ∧ ∀ e, e < 1 → (unheard 7).silenceDue e = false) ∧
      (∀ d, (on .active).silenceDue d = false) := by decide

theorem witness_SegmentsReachTheResponder_keys : (on .active).keysKept := by decide

theorem witness_SegmentsReachTheResponder :
    (∀ st ∈ [StationState.active, .listening, .quiet 2, .quiet 3, .leaving],
      (line (on st) .contention .contended .ordinary).nothingDue) ∧
    (let s := line (on .active) .contention .contended .ordinary;
      (s.peer 2).state = .absent ∧
        readFrame .contended (heard (segmentFrame 0x81 { seg .read with source := 2 })) =
          .good (.segment { seg .read with source := 2 })) ∧
    (let s := line (on (.quiet 2)) .contention .contended .ordinary;
      s.link.contending = false ∧ s.link.followTail = false ∧ (seg .read).source ≠ s.own ∧ (s.peer (seg .read).source).state ≠ .self ∧
        (seg .read).destination = s.own ∧ (seg .read).malformed = false ∧ s.continuation (seg .read) = false ∧
        (2 : Urgency) < (seg .read).urgency ∧ (seg .read).urgency ≤ 3 ∧
        s.continuation { seg .read with firstFlag := false } = true) ∧
    readFrame .contended (heard (segmentFrame 0x81 (seg .read))) = .good (.segment (seg .read)) ∧
    ({ seg .read with length := 17 } : Segment).malformed = true ∧
    readFrame .contended (heard (segmentFrame 0x81 { seg .read with length := 17 })) =
      .good (.segment { seg .read with length := 17 }) ∧
    readFrame .contended (heard (segmentFrame 0x81 { seg .read with firstFlag := false })) =
      .good (.segment { seg .read with firstFlag := false }) ∧
    readFrame .contended (heard (segmentFrame 0x81 { seg .read with destination := 31 })) =
      .good (.segment { seg .read with destination := 31 }) := by decide +kernel

theorem witness_AdmissionFollowsTheWindowTable :
    (∀ n : EntryNo, State.reset.windows[n].valid = false) ∧
    ((withWindow State.reset).windows[0].covers 0x10FF = true ∧ (withWindow State.reset).windows[0].covers 0x1100 = false ∧
      openWindow.access.getLsbD 0 = true ∧ openWindow.access.getLsbD 1 = true ∧
      openWindow.requesterMask.getLsbD 31 = true) ∧
    ({ openWindow with access := 1 } : WindowEntry).access.getLsbD 1 = false ∧
    ({ openWindow with requesterMask := 1 } : WindowEntry).requesterMask.getLsbD 1 = false := by decide

/-- Every entry QUEUED for other keys. -/
def fullTable (st : ContextState) : State :=
  let s := withWindow (on .active)
  { s with responder := { s.responder with
      contexts := Vector.ofFn fun j => { entry .read st false with tag := j, requester := 5 } } }
theorem witness_UnknownSegmentsTakeAnEntry :
    (∀ j, ((withWindow (on .active)).context j).state = .free) ∧ (on .active).admission (seg .read) = .refused .noWindow ∧
    (withWindow (on .active)).admission (seg .write) = .admitted 0 2 ∧ (seg .write).firstFlag = true ∧
    (({ seg .write with firstFlag := false } : Segment).firstFlag = false ∧
      (withWindow (on .active)).windows[0].prefetchable = false) ∧
    (∀ k, ((fullTable .queued).context k).state ≠ .free ∧ ((fullTable .queued).context k).state.isAnswered = false ∧
      ((fullTable .queued).context k).requester ≠ (seg .read).source) := by decide

theorem witness_KnownSegmentsAreServed :
    (∀ st ∈ [ContextState.queued, .cycling, .ready (.taken 2) 20, .answered (.taken 2) 3 20],
      let s := withContext (on .active) (entry .read st false);
      (s.context 0).state ≠ .free ∧ (s.context 0).orphan = .clear ∧ (s.context 0).requester = (seg .read).source ∧
        (s.context 0).tag = (seg .read).tag ∧ (∀ k, k ≠ 0 → (s.context k).state = .free) ∧
        (s.context 0).generation = (seg .read).generation ∧ (seg .read).offset = (s.context 0).offset ∧
        (seg .read).op = (s.context 0).op) ∧
    ((seg .read).firstFlag = true ∧ (seg .read).offset = 0 ∧ ({ seg .read with firstFlag := false } : Segment).firstFlag = false) ∧
    (entry .read .queued true).generation ≠ ({ seg .read with generation := 2 } : Segment).generation ∧
    (seg .write).op ≠ (entry .read .queued true).op ∧
    (entry .read .queued true).offset.toNat < ({ seg .read with offset := 1 } : Segment).offset.toNat ∧
    (seg .read).offset.toNat < ({ entry .read .queued true with offset := 255 } : Context).offset.toNat ∧
    (withWindow (on .active)).admission (seg .read) = .admitted 0 2 ∧ (on .active).admission (seg .read) = .refused .noWindow := by
  decide

theorem witness_HoldPointAndLifetimeExpire :
    (let s := withContext (on .active) (entry .read .queued true);
      let t := { s with responder := { s.responder with holdTimer := some 20 } };
      t.responder.holdTimer = some 20 ∧ (t.context 0).answerOwed = true ∧
        (∀ k, k ≠ 0 → (t.context k).answerOwed = false)) ∧
    State.reset.responder.holdTimer = none ∧
    (entry .read (.ready (.taken 2) 20) false).state = .ready (.taken 2) 20 ∧
    (entry .read (.answered (.taken 2) 3 20) false).state = .answered (.taken 2) 3 20 ∧
    (State.reset.context 7).state = .free := by decide

/-- LISTENING with so much left of the listening period. -/
def listening (left : Nat) : State :=
  { on .listening with controller := { (on .listening).controller with listenTimer := some left } }
theorem witness_TicksAgeAndBeacon :
    ((listening 11).nothingDue ∧ (listening 11).controller.listenTimer = some 11 ∧ (listening 11).bp < 11 ∧
      (listening 10).bp = 10 ∧ (listening 10).link.tx = none ∧ (listening 10).nothingDue) ∧
    ((on .active).nothingDue ∧ (on .active).controller.beaconTimer = some 10) ∧
    ((on (.quiet 7)).nothingDue ∧ (on (.quiet 7)).controller.station = .quiet 7) ∧ (on .leaving).nothingDue ∧
    (State.reset.nothingDue ∧ State.reset.controller.beaconTimer = none ∧ State.reset.controller.station ≠ .listening) := by
  decide

theorem witness_ArbiterTakesTheOldestQueued :
    let s := withContext (withWindow (on .active)) (entry .read .queued true)
    s.target.current = none ∧ (s.context 0).state = .queued ∧ (∀ k, k ≠ 0 → (s.context k).state ≠ .queued) ∧
      s.target.monitor = .stopped ∧
      ({ s.target with monitor := .withdrawal 16 false } : TargetBus).monitor ≠ .stopped ∧
      (busy s (.termination 16)).target.current ≠ none := by decide

theorem witness_TerminationsTakeTheirCourses :
    (let s := busy (withContext (on .active) (entry .read .cycling true)) (.termination 16);
      s.target.monitor = .termination 16 ∧ s.target.current = some 0 ∧
        s.target.held = some { spanBase := 0x1000, localBase := 0x2000, widthCap := 4, burst := true } ∧
        s.target.cycle = some { address := 0x2000, size := 2, write := false, attempt := 1 } ∧ s.trl = 3 ∧
        s.target.retryCount + 1 ≤ s.trl ∧ 3 < 3 + 1 ∧ (s.context 0).bytesMoved + 1 < (s.context 0).lengthInWindow ∧
        (s.context 0).lengthInWindow ≤ (s.context 0).bytesMoved + 2) ∧
    (∀ n, State.reset.target.monitor ≠ .termination n) := by
  refine ⟨by decide, fun n h => ?_⟩
  cases h

theorem witness_RunsHandTheirResultOver :
    ((entry .read .cycling false).orphan = .clear ∧ (entry .read .cycling false).answerOwed = false) ∧
    (entry .read .cycling true).answerOwed = true ∧
    ({ entry .read .cycling false with orphan := .replaced } : Context).orphan = .replaced ∧
    ({ entry .read .cycling false with orphan := .isolated } : Context).orphan = .isolated := by decide

theorem witness_WithdrawalAndMonitorExpiry :
    ((busy (on .active) (.withdrawal 16 true)).target.monitor = .withdrawal 16 true ∧
      (busy (on .active) (.withdrawal 16 true)).target.current = some 0) ∧
    ({ (on .active).target with monitor := .withdrawal 16 false } : TargetBus).current = none ∧
    ((busy (on .active) (.withdrawal 16 false)).target.monitor = .withdrawal 16 false ∧
      (busy (on .active) (.withdrawal 16 false)).target.current = some 0 ∧
      (busy (on .active) (.withdrawal 16 false)).target.cycle ≠ none) ∧
    ({ (busy (on .active) (.withdrawal 16 false)).target with cycle := none } : TargetBus).cycle = none ∧
    (busy (on .active) (.termination 16)).target.monitor = .termination 16 ∧ State.reset.target.monitor = .stopped := by
  decide

theorem witness_CycleSizeIsTheLargestThatFits : 1 ≤ 4 ∧ 1 ≤ 1 := by decide

theorem witness_FramesSentAreReadBack :
    (List.replicate 16 (0xFF : Byte)).length ≤ 16 ∧ takenAnswer.data.length ≤ 16 ∧ Layout.lateReply ≠ .contended ∧
      State.reset.drivenFrame = none ∧ (contention .contention true 0).drivenFrame ≠ none ∧
      ([.recessive, .dominant] : List Level).head? ≠ some .dominant := by decide

theorem witness_ContentionCodesOrderTheStations : (0x44 : Byte).toNat < (0x54 : Byte).toNat := by decide

theorem witness_EveryStepKeepsTheQueues :
    State.reset.queuesKept ∧ step State.reset = .next State.reset := ⟨by decide, rfl⟩

theorem witness_EveryStepKeepsTheStationOrdered :
    (State.reset.stagingCanonical ∧ State.reset.linkCountsKept ∧ State.reset.lockKept ∧ State.reset.ownRecordKept ∧
      State.reset.silentWhenOff ∧ State.reset.resetKept) ∧
    (after (.coldReset ⟨3, 1⟩ true) State.reset).resetKept ∧ step State.reset = .next State.reset :=
  ⟨by decide, by decide +kernel, rfl⟩

/-- A station sending slot 0's segment while context 0 waits for the target bus. -/
def atWork : State := withContext (sending .active (.segment 0 (seg .read))) (entry .read .queued true)
theorem witness_EveryStepKeepsExchangesAndContexts :
    atWork.silentWhenOff ∧ atWork.exchangesKept ∧ atWork.cyclingKept ∧ atWork.keysKept :=
  ⟨by decide, by decide, by decide, by decide⟩

end Sys2Proof.Tests
end

section

/-! SUPPORT. Requests, dispatch, resets and register writes: the laws of the operations they use, and the proofs of their statements.
The whole text is checked in one process of bounded memory, which a thread for every proof still waiting would exceed: the proofs below
are elaborated one after another. -/

set_option Elab.async false

section
/-! What each operation leaves of the three queues: the request queue with its counters is the requester's `held` part, and the notice
queue stays within its capacity. -/

namespace Sys2Proof.Machine

/-- The request queue, the drain count and the fence wait: the part of the requester that no operation over slots changes. -/
def Requester.held (r : Requester) : List Descriptor × Nat × Bool := (r.queue, r.drainCount, r.fenceWait)

/-- The notice queue holds at most what R183 allows. -/
def Notices.Fit (q : Notices) : Prop := q.records.length ≤ Config.noticeCapacity

variable (s : State)

/-! ### Operations over slots -/

@[simp] theorem State.setSlot_held (i : Tag) (x : Slot) : (s.setSlot i x).requester.held = s.requester.held := rfl

@[simp] theorem State.setSlotState_held (i : Tag) (st : SlotState) :
    (s.setSlotState i st).requester.held = s.requester.held := rfl

@[simp] theorem State.finishSlot_held (i : Tag) (st : Status) :
    (s.finishSlot i st).requester.held = s.requester.held := rfl

@[simp] theorem State.endSlots_held (which : Tag → Bool) (st : Status) :
    (s.endSlots which st).requester.held = s.requester.held := rfl

@[simp] theorem State.markSlots_held (which : Tag → Bool) (f : Slot → Slot) :
    (s.markSlots which f).requester.held = s.requester.held := rfl

@[simp] theorem State.releaseBehind_held (n : Nat) (d : StationNo) :
    (State.releaseBehind n d s).requester.held = s.requester.held := by
  obtain ⟨-, hq, hd, hf, -⟩ := s.releaseBehind_slot n d 0
  simp [Requester.held, hq, hd, hf]

@[simp] theorem State.endSlot_held (i : Tag) (st : Status) : (s.endSlot i st).requester.held = s.requester.held := by
  simp [State.endSlot]

@[simp] theorem State.placeSlot_held (i : Tag) : (s.placeSlot i).requester.held = s.requester.held := by
  unfold State.placeSlot
  split <;> simp

@[simp] theorem State.takeCourse_held (i : Tag) (c : Course) :
    (s.takeCourse i c).requester.held = s.requester.held := by
  cases c <;> simp [State.takeCourse]

@[simp] theorem State.closeExchange_held (i : Tag) (c : Course) :
    (s.closeExchange i c).requester.held = s.requester.held := by
  unfold State.closeExchange
  (repeat' split) <;> simp

@[simp] theorem State.quietReaches_held (i : Tag) (level : Urgency) :
    (s.quietReaches i level).requester.held = s.requester.held := by
  unfold State.quietReaches
  (repeat' split) <;> simp

@[simp] theorem State.endingReaches_held (i : Tag) (d : Deferred) :
    (s.endingReaches i d).requester.held = s.requester.held := by
  unfold State.endingReaches
  split <;> simp

@[simp] theorem State.deliverTransition_held (d : StationNo) (before after : PeerState) :
    (s.deliverTransition d before after).requester.held = s.requester.held := by
  unfold State.deliverTransition
  (repeat' split) <;> simp

@[simp] theorem State.noAnswer_held (i : Tag) : (s.noAnswer i).requester.held = s.requester.held := by
  simp [State.noAnswer]

@[simp] theorem State.takeDueAnswer_held : s.takeDueAnswer.requester.held = s.requester.held := by
  unfold State.takeDueAnswer
  (repeat' split) <;> simp

@[simp] theorem State.applyTaken_held (i : Tag) (a : Answer) :
    (s.applyTaken i a).requester.held = s.requester.held := by
  unfold State.applyTaken
  dsimp only
  split <;> simp

@[simp] theorem State.applyAnswer_held (i : Tag) (a : Answer) :
    (s.applyAnswer i a).requester.held = s.requester.held := by
  unfold State.applyAnswer
  split <;> simp [State.applyHeld, State.applyBusy, State.applyRefused]

@[simp] theorem State.deliverAnswer_held (a : Answer) : (s.deliverAnswer a).requester.held = s.requester.held := by
  unfold State.deliverAnswer
  (repeat' split) <;> simp

@[simp] theorem State.loadSlot_held (i : Tag) : (s.loadSlot i).requester.held = s.requester.held := by
  simp [State.loadSlot]

@[simp] theorem State.startLeaving_held : s.startLeaving.requester.held = s.requester.held := by
  unfold State.startLeaving
  dsimp only
  split <;> simp

/-! ### Peers, reports and frames -/

@[simp] theorem State.peerBecomes_held (d : StationNo) (after : PeerState) :
    (s.peerBecomes d after).requester.held = s.requester.held := by
  unfold State.peerBecomes
  dsimp only
  split <;> simp

@[simp] theorem State.hearFrame_held (d : StationNo) : (s.hearFrame d).requester.held = s.requester.held := by
  unfold State.hearFrame
  split <;> simp

@[simp] theorem State.hearBeacon_held (b : Beacon) : (s.hearBeacon b).requester.held = s.requester.held := by
  unfold State.hearBeacon
  (repeat' split) <;> simp

@[simp] theorem State.silenceOne_held : s.silenceOne.requester.held = s.requester.held := by
  unfold State.silenceOne
  split <;> simp

@[simp] theorem State.silenceAll_held (n : Nat) : (State.silenceAll n s).requester.held = s.requester.held := by
  induction n generalizing s with
  | zero => rfl
  | succ n ih =>
    unfold State.silenceAll
    split <;> simp [ih]

@[simp] theorem State.isolate_held (k : NoticeKind) : (s.isolate k).requester.held = s.requester.held := by
  simp [State.isolate]

@[simp] theorem State.report_held (k : NoticeKind) : (s.report k).requester.held = s.requester.held := by
  unfold State.report
  split <;> simp

@[simp] theorem State.takeDueFault_held : s.takeDueFault.requester.held = s.requester.held := by
  unfold State.takeDueFault
  split <;> simp

@[simp] theorem State.takeDue_held : s.takeDue.requester.held = s.requester.held := by
  simp [State.takeDue]

@[simp] theorem State.deliverFrame_held (f : Frame) (b : Bool) :
    (s.deliverFrame f b).requester.held = s.requester.held := by
  unfold State.deliverFrame
  dsimp only
  (repeat' split) <;> simp

@[simp] theorem State.receive_held (h : Heard) : (s.receive h).requester.held = s.requester.held := by
  unfold State.receive
  (repeat' split) <;> simp

end Sys2Proof.Machine

/-! ### Operations that post notices -/

namespace Sys2Proof.Machine

variable {s : State}

/-- A notice is posted only where it fits (R183). -/
@[simp] theorem State.post_fit (n : Notice) (h : s.notices.Fit) : (s.post n).notices.Fit := by
  unfold Notices.Fit at *
  by_cases room : s.notices.records.length < Config.noticeCapacity
  · simp only [State.post, room, if_true, State.onNotices_notices, List.length_append, List.length_singleton]
    omega
  · simpa [State.post, room] using h

@[simp] theorem State.postDropped_fit (j : EntryNo) (why : DropReason) (h : s.notices.Fit) :
    (s.postDropped j why).notices.Fit := by
  simp [State.postDropped, h]

@[simp] theorem State.discardContext_fit (j : EntryNo) (h : s.notices.Fit) : (s.discardContext j).notices.Fit := by
  unfold State.discardContext
  split <;> simp [h]

@[simp] theorem State.supersede_fit (g : Segment) (j : EntryNo) (h : s.notices.Fit) :
    (s.supersede g j).notices.Fit := by
  unfold State.supersede
  split <;> simp [h]

@[simp] theorem State.lookup_fit (g : Segment) (h : s.notices.Fit) : (s.lookup g).notices.Fit := by
  unfold State.lookup
  dsimp only
  (repeat' split) <;> simp [h]

@[simp] theorem State.wakeReport_fit (g : Segment) (h : s.notices.Fit) : (s.wakeReport g).notices.Fit := by
  simp [State.wakeReport, h]

@[simp] theorem State.deliverSegment_fit (g : Segment) (h : s.notices.Fit) :
    (s.deliverSegment g).notices.Fit := by
  unfold State.deliverSegment
  (repeat' split) <;> simp [h]

@[simp] theorem State.cyclesEnd_fit (j : EntryNo) (r : RunResult) (h : s.notices.Fit) :
    (s.cyclesEnd j r).notices.Fit := by
  unfold State.cyclesEnd
  dsimp only
  (repeat' split) <;> simp [h]

@[simp] theorem State.endRun_fit (j : EntryNo) (r : RunResult) (h : s.notices.Fit) : (s.endRun j r).notices.Fit := by
  simp [State.endRun, h]

@[simp] theorem State.failRun_fit (j : EntryNo) (cause : Cause) (h : s.notices.Fit) :
    (s.failRun j cause).notices.Fit := by
  simp [State.failRun, h]

@[simp] theorem State.takeAcknowledge_fit (j : EntryNo) (w : HeldWindow) (y : Cycle) (n : Nat) (data : BitVec 32)
    (h : s.notices.Fit) : (s.takeAcknowledge j w y n data).notices.Fit := by
  unfold State.takeAcknowledge
  dsimp only
  split <;> simp [h]

@[simp] theorem State.takeRetry_fit (j : EntryNo) (h : s.notices.Fit) : (s.takeRetry j).notices.Fit := by
  unfold State.takeRetry
  split <;> simp [h]

@[simp] theorem State.peerBecomes_fit (d : StationNo) (after : PeerState) (h : s.notices.Fit) :
    (s.peerBecomes d after).notices.Fit := by
  unfold State.peerBecomes
  dsimp only
  split <;> simp [h]

@[simp] theorem State.hearFrame_fit (d : StationNo) (h : s.notices.Fit) : (s.hearFrame d).notices.Fit := by
  unfold State.hearFrame
  split <;> simp [h]

@[simp] theorem State.hearBeacon_fit (b : Beacon) (h : s.notices.Fit) : (s.hearBeacon b).notices.Fit := by
  unfold State.hearBeacon
  (repeat' split) <;> simp [h]

@[simp] theorem State.silenceOne_fit (h : s.notices.Fit) : s.silenceOne.notices.Fit := by
  unfold State.silenceOne
  split <;> simp [h]

@[simp] theorem State.silenceAll_fit (n : Nat) (h : s.notices.Fit) : (State.silenceAll n s).notices.Fit := by
  induction n generalizing s with
  | zero => exact h
  | succ n ih =>
    unfold State.silenceAll
    split
    · exact h
    · exact ih (State.silenceOne_fit h)

@[simp] theorem State.isolate_fit (k : NoticeKind) (h : s.notices.Fit) : (s.isolate k).notices.Fit := by
  simp [State.isolate, h]

@[simp] theorem State.report_fit (k : NoticeKind) (h : s.notices.Fit) : (s.report k).notices.Fit := by
  unfold State.report
  split <;> simp [h]

@[simp] theorem State.takeDueFault_fit (h : s.notices.Fit) : s.takeDueFault.notices.Fit := by
  unfold State.takeDueFault
  split <;> simp [h]

@[simp] theorem State.takeDue_fit (h : s.notices.Fit) : s.takeDue.notices.Fit := by
  simp [State.takeDue, h]

@[simp] theorem State.endLeaving_fit (h : s.notices.Fit) : s.endLeaving.notices.Fit := by
  simp [State.endLeaving, h]

@[simp] theorem State.endListening_fit (h : s.notices.Fit) : s.endListening.notices.Fit := by
  simp [State.endListening, h]

@[simp] theorem State.tickEffect_fit (h : s.notices.Fit) : s.tickEffect.notices.Fit := by
  unfold State.tickEffect
  (repeat' split) <;> simp [h]

@[simp] theorem State.beaconSent_fit (b : OwnBeacon) (h : s.notices.Fit) : (s.beaconSent b).notices.Fit := by
  unfold State.beaconSent
  split <;> simp [h]

@[simp] theorem State.deliverFrame_fit (f : Frame) (b : Bool) (h : s.notices.Fit) :
    (s.deliverFrame f b).notices.Fit := by
  unfold State.deliverFrame
  dsimp only
  (repeat' split) <;> simp [h]

@[simp] theorem State.receive_fit (f : Heard) (h : s.notices.Fit) : (s.receive f).notices.Fit := by
  unfold State.receive
  (repeat' split) <;> simp [h]

end Sys2Proof.Machine
end

section
/-! What each command leaves of the queues: most commands keep the request queue and the records and post within the notice queue's
capacity; eight move a queue or the drain count, and each of them keeps the counts true. -/

namespace Sys2Proof.Machine

/-- What a command that takes no descriptor, writes or pops no record and resets nothing makes of the queues. -/
structure KeepsQueues (s t : State) : Prop where
  held        : t.requester.held = s.requester.held
  records     : t.completions.records = s.completions.records
  notifyCount : t.completions.notifyCount = s.completions.notifyCount
  notices     : s.notices.Fit → t.notices.Fit

/-- The commands that move a descriptor or a record, set the drain count, or reset the queues. -/
def movesQueues : Instr → Bool
  | .push | .popCompletion | .abortAll | .softReset | .coldReset _ _ | .dispatch | .slotCompletionWrite
  | .directCompletion => true
  | _ => false

theorem KeepsQueues.refl (s : State) : KeepsQueues s s := ⟨rfl, rfl, rfl, id⟩

/-- What leaves the requester, the records and the notices alone keeps the queues. -/
theorem KeepsQueues.of_eq {s t : State} (requester : t.requester = s.requester)
    (records : t.completions.records = s.completions.records)
    (notifyCount : t.completions.notifyCount = s.completions.notifyCount)
    (notices : t.notices.records = s.notices.records) : KeepsQueues s t :=
  ⟨by rw [requester], records, notifyCount, fun h => by simpa only [Notices.Fit, notices] using h⟩

theorem KeepsQueues.queuesKept {s t : State} (k : KeepsQueues s t) (h : s.queuesKept) : t.queuesKept := by
  obtain ⟨queue, drain, fence, records, notify, notices⟩ := h
  obtain ⟨hq, hd, hf⟩ : t.requester.queue = s.requester.queue ∧ t.requester.drainCount = s.requester.drainCount ∧
      t.requester.fenceWait = s.requester.fenceWait := by simpa [Requester.held] using k.held
  have hn : t.notices.records.length ≤ 8 := k.notices notices
  simp only [State.queuesKept, hq, hd, hf, k.records, k.notifyCount]
  exact ⟨queue, drain, fence, records, notify, hn⟩

/-- A host access keeps the queues when its effect does. -/
theorem State.hostTakes_keepsQueues {s t u : State} (k : KeepsQueues s t) (h : s.hostTakes t = .next u) :
    KeepsQueues s u := by
  rcases State.hostTakes_cases h with ⟨-, rfl⟩ | ⟨-, rfl⟩
  · exact k
  · exact KeepsQueues.refl _

/-- A host access keeps the queues' conditions when its effect does. -/
theorem State.hostTakes_queuesKept {s t u : State} (h : s.queuesKept) (k : t.queuesKept)
    (e : s.hostTakes t = .next u) : u.queuesKept := by
  rcases State.hostTakes_cases e with ⟨-, rfl⟩ | ⟨-, rfl⟩
  · exact k
  · exact h

section

variable (s : State)

@[simp] theorem State.stopMonitor_frame :
    s.stopMonitor.requester = s.requester ∧ s.stopMonitor.staging = s.staging ∧
    s.stopMonitor.responder = s.responder ∧ s.stopMonitor.windows = s.windows ∧ s.stopMonitor.link = s.link ∧
    s.stopMonitor.peers = s.peers ∧ s.stopMonitor.controller = s.controller ∧
    s.stopMonitor.completions = s.completions ∧ s.stopMonitor.notices = s.notices ∧
    s.stopMonitor.hostPort = s.hostPort ∧ s.stopMonitor.pending = s.pending := by
  simp [State.stopMonitor]

@[simp] theorem State.takeContext_frame (j : EntryNo) :
    (s.takeContext j).requester = s.requester ∧ (s.takeContext j).staging = s.staging ∧
    (s.takeContext j).windows = s.windows ∧ (s.takeContext j).link = s.link ∧
    (s.takeContext j).peers = s.peers ∧ (s.takeContext j).controller = s.controller ∧
    (s.takeContext j).completions = s.completions ∧ (s.takeContext j).notices = s.notices ∧
    (s.takeContext j).hostPort = s.hostPort ∧ (s.takeContext j).pending = s.pending := by
  simp [State.takeContext]

end

variable {s t : State}

/-! ### Host commands and accesses -/

theorem execPopNotice_keepsQueues (e : execPopNotice s = .next t) : KeepsQueues s t := by
  refine State.hostTakes_keepsQueues ?_ e
  split
  · constructor <;> simp
  · rename_i n rest hr
    refine ⟨by simp, by simp, by simp, fun h => ?_⟩
    simp only [Notices.Fit, hr, List.length_cons] at h
    simp only [Notices.Fit, State.withResult_frame, State.onNotices_notices]
    omega

theorem execJoin_keepsQueues (e : execJoin s = .next t) : KeepsQueues s t := by
  refine State.hostTakes_keepsQueues ?_ e
  (repeat' split) <;> constructor <;> simp

theorem execLeave_keepsQueues (e : execLeave s = .next t) : KeepsQueues s t := by
  refine State.hostTakes_keepsQueues ?_ e
  split <;> constructor <;> simp

theorem execQuiet_keepsQueues {arg : Byte} (e : execQuiet arg s = .next t) : KeepsQueues s t := by
  refine State.hostTakes_keepsQueues ?_ e
  (repeat' split) <;> constructor <;> simp [State.quietSlots]

theorem execWake_keepsQueues (e : execWake s = .next t) : KeepsQueues s t := by
  refine State.hostTakes_keepsQueues ?_ e
  split <;> constructor <;> simp

theorem execAbort_keepsQueues {arg : Byte} (e : execAbort arg s = .next t) : KeepsQueues s t := by
  refine State.hostTakes_keepsQueues ?_ e
  unfold State.abortSlot
  (repeat' split) <;> constructor <;> simp

theorem execClearFlags_keepsQueues (e : execClearFlags s = .next t) : KeepsQueues s t := by
  refine State.hostTakes_keepsQueues ?_ e
  exact KeepsQueues.of_eq rfl rfl rfl rfl

theorem execUnassignedCommandCode_keepsQueues {code : Byte} (e : execUnassignedCommandCode code s = .next t) :
    KeepsQueues s t := by
  refine State.hostTakes_keepsQueues ?_ e
  split <;> constructor <;> simp

theorem execConfigurationWrite_keepsQueues {addr : Byte} {data : Word} {lanes : Lanes}
    (e : execConfigurationWrite addr data lanes s = .next t) : KeepsQueues s t := by
  refine State.hostTakes_keepsQueues ?_ e
  unfold State.storeConfiguration
  (repeat' split) <;> constructor <;> simp

theorem execStagingWrite_keepsQueues {addr : Byte} {data : Word} {lanes : Lanes}
    (e : execStagingWrite addr data lanes s = .next t) : KeepsQueues s t := by
  refine State.hostTakes_keepsQueues ?_ e
  split <;> constructor <;> simp

theorem execPeerIndexWrite_keepsQueues {data : Word} {lanes : Lanes}
    (e : execPeerIndexWrite data lanes s = .next t) : KeepsQueues s t := by
  refine State.hostTakes_keepsQueues ?_ e
  split <;> constructor <;> simp

theorem execRegisterWrite_keepsQueues {addr : Byte} {data : Word} {lanes : Lanes}
    (e : execRegisterWrite addr data lanes s = .next t) : KeepsQueues s t := by
  refine State.hostTakes_keepsQueues ?_ e
  (repeat' split) <;> constructor <;> simp

theorem execStatusCapture_keepsQueues (e : execStatusCapture s = .next t) : KeepsQueues s t := by
  refine State.hostTakes_keepsQueues ?_ e
  exact KeepsQueues.of_eq rfl rfl rfl rfl

theorem execCompletionHeadCapture_keepsQueues (e : execCompletionHeadCapture s = .next t) : KeepsQueues s t := by
  refine State.hostTakes_keepsQueues ?_ e
  exact KeepsQueues.of_eq rfl rfl rfl rfl

theorem execNoticeHeadCapture_keepsQueues (e : execNoticeHeadCapture s = .next t) : KeepsQueues s t := by
  refine State.hostTakes_keepsQueues ?_ e
  exact KeepsQueues.of_eq rfl rfl rfl rfl

theorem execPeerRecordCapture_keepsQueues (e : execPeerRecordCapture s = .next t) : KeepsQueues s t := by
  refine State.hostTakes_keepsQueues ?_ e
  exact KeepsQueues.of_eq rfl rfl rfl rfl

/-! ### The requester's and the link unit's events -/

theorem execTransmitRegisterLoad_keepsQueues (e : execTransmitRegisterLoad s = .next t) : KeepsQueues s t := by
  cases e
  (repeat' split) <;> constructor <;> simp

theorem execAnswerTimerExpiry_keepsQueues (e : execAnswerTimerExpiry s = .next t) : KeepsQueues s t := by
  cases e
  (repeat' split) <;> constructor <;> simp

theorem execBackoffExpiry_keepsQueues {i : Tag} (e : execBackoffExpiry i s = .next t) : KeepsQueues s t := by
  cases e
  split <;> constructor <;> simp

theorem execFrameStart_keepsQueues (e : execFrameStart s = .next t) : KeepsQueues s t := by
  cases e
  split <;> constructor <;> simp +contextual

theorem execContentionLost_keepsQueues (e : execContentionLost s = .next t) : KeepsQueues s t := by
  cases e
  split <;> constructor <;> simp +contextual

theorem execUrgencyAgeing_keepsQueues (e : execUrgencyAgeing s = .next t) : KeepsQueues s t := by
  cases e
  split <;> constructor <;> simp

theorem execTransmissionBegins_keepsQueues (e : execTransmissionBegins s = .next t) : KeepsQueues s t := by
  cases e
  split <;> constructor <;> simp

theorem execFrameSentInFull_keepsQueues (e : execFrameSentInFull s = .next t) : KeepsQueues s t := by
  cases e
  (repeat' split) <;> constructor <;> simp +contextual

theorem execFrameAbandoned_keepsQueues (e : execFrameAbandoned s = .next t) : KeepsQueues s t := by
  cases e
  (repeat' split) <;> constructor <;> simp

theorem execLinkFault_keepsQueues (e : execLinkFault s = .next t) : KeepsQueues s t := by
  cases e
  constructor <;> simp +contextual

theorem execFrameReceived_keepsQueues {h : Heard} (e : execFrameReceived h s = .next t) : KeepsQueues s t := by
  cases e
  (repeat' split) <;> constructor <;> simp +contextual

theorem execAnswerTransmissionStart_keepsQueues (e : execAnswerTransmissionStart s = .next t) : KeepsQueues s t := by
  cases e
  split <;> constructor <;> simp +contextual

theorem execReservationTimeout_keepsQueues (e : execReservationTimeout s = .next t) : KeepsQueues s t := by
  cases e
  split <;> constructor <;> simp

theorem execIdleGapElapsed_keepsQueues (e : execIdleGapElapsed s = .next t) : KeepsQueues s t := by
  cases e
  split <;> constructor <;> simp

theorem execDominantBitFromAnotherStation_keepsQueues (e : execDominantBitFromAnotherStation s = .next t) :
    KeepsQueues s t := by
  cases e
  (repeat' split) <;> constructor <;> simp +contextual

/-! ### The responder's, the station controller's and the target bus unit's events -/

theorem execHoldPointExpiry_keepsQueues (e : execHoldPointExpiry s = .next t) : KeepsQueues s t := by
  cases e
  dsimp only
  (repeat' split) <;> constructor <;> simp

theorem execContextLifetimeExpiry_keepsQueues {j : EntryNo} (e : execContextLifetimeExpiry j s = .next t) :
    KeepsQueues s t := by
  cases e
  split <;> constructor <;> simp +contextual

theorem execListenTimerExpiry_keepsQueues (e : execListenTimerExpiry s = .next t) : KeepsQueues s t := by
  cases e
  split <;> constructor <;> simp +contextual

theorem execBeaconPeriodTick_keepsQueues (e : execBeaconPeriodTick s = .next t) : KeepsQueues s t := by
  cases e
  split <;> constructor <;> simp +contextual

theorem execSilenceCountExpiry_keepsQueues (e : execSilenceCountExpiry s = .next t) : KeepsQueues s t := by
  cases e
  constructor <;> simp +contextual

theorem execTargetBusArbiter_keepsQueues (e : execTargetBusArbiter s = .next t) : KeepsQueues s t := by
  cases e
  (repeat' split) <;> constructor <;> simp

theorem execTargetTermination_keepsQueues {signals : Termination} (e : execTargetTermination signals s = .next t) :
    KeepsQueues s t := by
  cases e
  split
  · rename_i k _ _ _ _ _
    cases k <;> constructor <;> simp +contextual [State.actOn]
  · exact KeepsQueues.refl s

theorem execTerminationWithdrawn_keepsQueues (e : execTerminationWithdrawn s = .next t) : KeepsQueues s t := by
  cases e
  split <;> constructor <;> simp

theorem execTargetMonitorExpiry_keepsQueues (e : execTargetMonitorExpiry s = .next t) : KeepsQueues s t := by
  cases e
  split <;> constructor <;> simp +contextual

/-- Every command but the eight that move a queue keeps the request queue and the records, and the notices within their capacity. -/
theorem exec_keepsQueues {c : Instr} (hc : movesQueues c = false) (e : exec c s = .next t) : KeepsQueues s t := by
  cases c with
  | push | popCompletion | abortAll | softReset | coldReset | dispatch | slotCompletionWrite | directCompletion =>
    simp [movesQueues] at hc
  | popNotice => exact execPopNotice_keepsQueues e
  | join => exact execJoin_keepsQueues e
  | leave => exact execLeave_keepsQueues e
  | quiet arg => exact execQuiet_keepsQueues e
  | wake => exact execWake_keepsQueues e
  | abort arg => exact execAbort_keepsQueues e
  | clearFlags => exact execClearFlags_keepsQueues e
  | unassignedCommandCode code => exact execUnassignedCommandCode_keepsQueues e
  | configurationWrite addr data lanes => exact execConfigurationWrite_keepsQueues e
  | stagingWrite addr data lanes => exact execStagingWrite_keepsQueues e
  | peerIndexWrite data lanes => exact execPeerIndexWrite_keepsQueues e
  | registerWrite addr data lanes => exact execRegisterWrite_keepsQueues e
  | statusCapture => exact execStatusCapture_keepsQueues e
  | completionHeadCapture => exact execCompletionHeadCapture_keepsQueues e
  | noticeHeadCapture => exact execNoticeHeadCapture_keepsQueues e
  | peerRecordCapture => exact execPeerRecordCapture_keepsQueues e
  | transmitRegisterLoad => exact execTransmitRegisterLoad_keepsQueues e
  | frameStart => exact execFrameStart_keepsQueues e
  | contentionLost => exact execContentionLost_keepsQueues e
  | urgencyAgeing => exact execUrgencyAgeing_keepsQueues e
  | transmissionBegins => exact execTransmissionBegins_keepsQueues e
  | frameSentInFull => exact execFrameSentInFull_keepsQueues e
  | frameAbandoned => exact execFrameAbandoned_keepsQueues e
  | linkFault => exact execLinkFault_keepsQueues e
  | frameReceived frame => exact execFrameReceived_keepsQueues e
  | answerTransmissionStart => exact execAnswerTransmissionStart_keepsQueues e
  | reservationTimeout => exact execReservationTimeout_keepsQueues e
  | answerTimerExpiry => exact execAnswerTimerExpiry_keepsQueues e
  | idleGapElapsed => exact execIdleGapElapsed_keepsQueues e
  | holdPointExpiry => exact execHoldPointExpiry_keepsQueues e
  | contextLifetimeExpiry entry => exact execContextLifetimeExpiry_keepsQueues e
  | backoffExpiry slot => exact execBackoffExpiry_keepsQueues e
  | listenTimerExpiry => exact execListenTimerExpiry_keepsQueues e
  | beaconPeriodTick => exact execBeaconPeriodTick_keepsQueues e
  | silenceCountExpiry => exact execSilenceCountExpiry_keepsQueues e
  | targetBusArbiter => exact execTargetBusArbiter_keepsQueues e
  | targetTermination signals => exact execTargetTermination_keepsQueues e
  | terminationWithdrawn => exact execTerminationWithdrawn_keepsQueues e
  | targetMonitorExpiry => exact execTargetMonitorExpiry_keepsQueues e
  | dominantBitFromAnotherStation => exact execDominantBitFromAnotherStation_keepsQueues e

/-! ### The commands that move a queue -/

/-- There is room in the completion queue exactly while it holds fewer than 16 records (R177, R178). -/
theorem State.completionRoom_iff : s.completionRoom = true ↔ s.completions.records.length < 16 :=
  decide_eq_true_iff

/-- Writing a record at the tail, with room for it, keeps the conditions. -/
theorem State.writeRecord_queuesKept (r : CompletionRecord) (room : s.completionRoom = true) (h : s.queuesKept) :
    (s.writeRecord r).queuesKept := by
  obtain ⟨queue, drain, fence, -, notify, notices⟩ := h
  have length := State.completionRoom_iff.1 room
  refine ⟨queue, drain, fence, ?_, ?_, notices⟩
  · simp only [State.writeRecord, State.onCompletions_completions, List.length_append, List.length_singleton]
    omega
  · cases hn : r.notify <;> simp [State.writeRecord, hn, notify, List.countP_append]

/-- Holding a new request queue sets the fence wait by its head. -/
theorem State.setQueue_queuesKept (q : List Descriptor) (length : q.length ≤ 16)
    (drain : s.requester.drainCount ≤ q.length) (h : s.queuesKept) : (s.setQueue q).queuesKept := by
  obtain ⟨-, -, -, records, notify, notices⟩ := h
  exact ⟨length, drain, rfl, records, notify, notices⟩

theorem execPush_queuesKept (h : s.queuesKept) (e : execPush s = .next t) : t.queuesKept := by
  refine State.hostTakes_queuesKept h ?_ e
  split
  · exact h
  · split
    · rename_i room
      have room : s.requester.queue.length < 16 := room
      obtain ⟨-, drain, -⟩ := id h
      exact State.setQueue_queuesKept _ (by simp; omega) (by simp; omega) h
    · exact h

theorem execPopCompletion_queuesKept (h : s.queuesKept) (e : execPopCompletion s = .next t) : t.queuesKept := by
  refine State.hostTakes_queuesKept h ?_ e
  split
  · exact h
  · rename_i r rest hr
    obtain ⟨queue, drain, fence, records, notify, notices⟩ := h
    rw [hr] at records notify
    refine ⟨queue, drain, fence, ?_, ?_, notices⟩
    · simp at records ⊢; omega
    · cases hn : r.notify <;> simp [hn] at notify ⊢ <;> omega

theorem execAbortAll_queuesKept (h : s.queuesKept) (e : execAbortAll s = .next t) : t.queuesKept := by
  refine State.hostTakes_queuesKept h ?_ e
  obtain ⟨queue, -, fence, records, notify, notices⟩ := h
  simp [State.queuesKept, State.markSlots, State.endSlots, queue, fence, records, notify, notices]

/-- What a dispatch needs: R6's conditions, with the head descriptor and the slot it takes. -/
theorem State.dispatchable_eq_some {d : Descriptor} {rest : List Descriptor} {i : Tag} :
    s.dispatchable = some (d, rest, i) ↔
      s.requester.queue = d :: rest ∧ lowestOf (fun j => (s.slot j).state.isFree) = some i ∧
        s.controller.station = .active ∧ s.requester.drainCount = 0 ∧ s.requester.fenceWait = false ∧
        d.kind ≠ .fence := by
  unfold State.dispatchable
  constructor
  · intro h
    split at h
    · cases h
    · split at h
      · cases h
      · split at h
        · rename_i d' rest' hq _ i' hi hc
          cases h
          exact ⟨hq, hi, hc⟩
        · cases h
  · rintro ⟨hq, hi, hc⟩
    simp only [hq, hi, if_pos hc]

/-- A dispatch takes the head off the request queue and keeps the records and the notices. -/
theorem State.dispatchInto_keepsQueues (d : Descriptor) (rest : List Descriptor) (i : Tag) :
    KeepsQueues (s.setQueue rest) (s.dispatchInto d rest i) := by
  unfold State.dispatchInto
  dsimp only
  split
  · exact ⟨rfl, rfl, rfl, id⟩
  · exact ⟨by rw [State.placeSlot_held]; rfl, by simp, by simp, by simp⟩

theorem execDispatch_queuesKept (h : s.queuesKept) (e : execDispatch s = .next t) : t.queuesKept := by
  cases e
  split
  · rename_i d rest i hd
    obtain ⟨hq, -, -, drain, -⟩ := State.dispatchable_eq_some.1 hd
    obtain ⟨queue, -⟩ := id h
    rw [hq, List.length_cons] at queue
    exact (s.dispatchInto_keepsQueues d rest i).queuesKept
      (State.setQueue_queuesKept rest (by omega) (by omega) h)
  · exact h

theorem execSlotCompletionWrite_queuesKept (h : s.queuesKept) (e : execSlotCompletionWrite s = .next t) :
    t.queuesKept := by
  cases e
  split
  · rename_i room
    split
    · unfold State.completeSlot
      split
      · exact State.writeRecord_queuesKept _ room h
      · exact h
    · exact h
  · exact h

/-- A direct completion, with room for its record, keeps the conditions: the drain count falls with the queue. -/
theorem State.completeHead_queuesKept {d : Descriptor} {rest : List Descriptor} (st : Status)
    (hq : s.requester.queue = d :: rest) (room : s.completionRoom = true) (h : s.queuesKept) :
    (s.completeHead d rest st).queuesKept := by
  obtain ⟨queue, drain, -, records, notify, notices⟩ := State.writeRecord_queuesKept (d.directRecord st) room h
  simp only [State.writeRecord_frame, hq, List.length_cons] at queue drain
  refine ⟨Nat.le_of_succ_le queue, ?_, rfl, records, notify, notices⟩
  change s.requester.drainCount - 1 ≤ rest.length
  omega

theorem execDirectCompletion_queuesKept (h : s.queuesKept) (e : execDirectCompletion s = .next t) :
    t.queuesKept := by
  cases e
  split
  · exact h
  · rename_i d rest hq
    split
    · rename_i ready
      split
      · exact State.completeHead_queuesKept _ hq ready.1 h
      · exact h
    · exact h

theorem State.cold_queuesKept (own : StationNo) (rate : RateCode) (pins : BusPins) (held : Bool) (q : List Instr) :
    (State.cold own rate pins held q).queuesKept := by
  simp [State.cold, State.queuesKept, Requester.reset, Completions.reset, Notices.reset, fenceAtHead]

theorem State.softReset_queuesKept (s : State) : s.softReset.queuesKept := by
  simp [State.softReset, State.queuesKept, Requester.reset, Completions.reset, Notices.reset, fenceAtHead]

/-! ### Every command and every step -/

theorem exec_queuesKept (c : Instr) (h : s.queuesKept) (e : exec c s = .next t) : t.queuesKept := by
  cases hc : movesQueues c with
  | false => exact (exec_keepsQueues hc e).queuesKept h
  | true =>
    cases c with
    | push => exact execPush_queuesKept h e
    | popCompletion => exact execPopCompletion_queuesKept h e
    | abortAll => exact execAbortAll_queuesKept h e
    | softReset => exact State.hostTakes_queuesKept h s.softReset_queuesKept e
    | coldReset straps held =>
      cases e
      exact State.cold_queuesKept _ _ _ _ _
    | dispatch => exact execDispatch_queuesKept h e
    | slotCompletionWrite => exact execSlotCompletionWrite_queuesKept h e
    | directCompletion => exact execDirectCompletion_queuesKept h e
    | _ => cases hc

theorem step_queuesKept (h : s.queuesKept) (e : step s = .next t) : t.queuesKept := by
  unfold step at e
  split at e
  · cases e
    exact h
  · rename_i c rest _
    exact exec_queuesKept c (s := s.setPending rest) h e

theorem fenceAtHead_iff (q : List Descriptor) :
    fenceAtHead q = true ↔ ∃ d rest, q = d :: rest ∧ d.kind = .fence := by
  cases q with
  | nil => simp [fenceAtHead]
  | cons d rest => simp [fenceAtHead]

/-- Settles O57: of the 48 commands 40 keep the queues whole, and the other eight keep their counts true. -/
theorem everyStepKeepsTheQueues : Obligations.EveryStepKeepsTheQueues := by
  refine ⟨fenceAtHead_iff, fun s t h e => ?_⟩
  have kept := step_queuesKept h e
  obtain ⟨-, -, fence, -⟩ := id kept
  exact ⟨kept, by rw [fence, fenceAtHead_iff]⟩

end Sys2Proof.Machine
end

section
/-! What happens to slots, said once: who waits and who is in flight, which BEHIND slot is released, and that the release ends
before its fuel does. -/

namespace Sys2Proof.Machine

variable {s : State}

/-! ### The states of a slot -/

theorem SlotState.isFree_iff {x : SlotState} : x.isFree = true ↔ x = .free := by cases x <;> simp [SlotState.isFree]

theorem SlotState.isBehind_iff {x : SlotState} : x.isBehind = true ↔ x = .behind := by
  cases x <;> simp [SlotState.isBehind]

/-- A slot that is neither FREE nor DONE is BEHIND or active (R20). -/
theorem SlotState.active_or_behind_iff {x : SlotState} :
    (x.isActive = true ∨ x.isBehind = true) ↔ x.isFree = false ∧ x.isDone = false := by
  cases x <;> simp [SlotState.isActive, SlotState.isBehind, SlotState.isFree, SlotState.isDone]

/-- The slots an abort ends at once are those that hold a transaction and have no exchange in flight (R61, R63). -/
theorem State.waiting_eq (s : State) (i : Tag) :
    s.waiting i = (!(s.slot i).state.isFree && !(s.slot i).state.isDone && !s.inFlight i) := by
  unfold State.waiting State.inFlight
  cases (s.slot i).state <;>
    simp [SlotState.isBehind, SlotState.isActive, SlotState.isFree, SlotState.isDone, SlotState.isAwaiting,
      SlotState.isContending]

/-- No slot both waits and is in flight. -/
theorem State.inFlight_of_waiting {i : Tag} (h : s.waiting i = true) : s.inFlight i = false := by
  simp only [State.waiting_eq, Bool.and_eq_true, Bool.not_eq_true'] at h
  exact h.2

/-! ### Choosing the slot to release -/

/-- The index that is strictly before every other allowed one is the one `bestOf` finds. -/
theorem bestOf_eq_some_of_least {allowed : Fin 8 → Bool} {key : Fin 8 → Nat} {i : Fin 8} (hi : allowed i = true)
    (least : ∀ j, j ≠ i → allowed j = true → key i < key j) :
    bestOf allowed (fun x y => decide (key x < key y)) = some i := by
  cases h : bestOf allowed (fun x y => decide (key x < key y)) with
  | none => simp [bestOf_eq_none.1 h i] at hi
  | some j =>
    by_contra hne
    have hlt := least j (fun e => hne (by rw [e])) (bestOf_admitted h)
    exact absurd (bestOf_minimal h i hi) (Nat.not_le.2 hlt)

theorem State.destinationActive_iff {d : StationNo} :
    s.destinationActive d = true ↔ ∃ k, (s.slot k).state.isActive = true ∧ (s.slot k).descriptor.destination = d := by
  simp [State.destinationActive]

theorem State.firstBehind_eq_none_iff {d : StationNo} :
    s.firstBehind d = none ↔ ∀ k, (s.slot k).state = .behind → (s.slot k).descriptor.destination ≠ d := by
  simp [State.firstBehind, bestOf_eq_none, ← SlotState.isBehind_iff]

/-- What is found to release is BEHIND on the destination. -/
theorem State.firstBehind_eq_some {d : StationNo} {j : Tag} (h : s.firstBehind d = some j) :
    (s.slot j).state = .behind ∧ (s.slot j).descriptor.destination = d := by
  simpa [SlotState.isBehind_iff] using bestOf_admitted h

/-- The BEHIND slot dispatched before every other one of its destination is the one to release. -/
theorem State.firstBehind_eq_some_of_first {d : StationNo} {j : Tag} (behind : (s.slot j).state = .behind)
    (destination : (s.slot j).descriptor.destination = d)
    (first : ∀ k, k ≠ j → (s.slot k).state = .behind → (s.slot k).descriptor.destination = d →
      (s.slot j).dispatchSeq < (s.slot k).dispatchSeq) : s.firstBehind d = some j := by
  refine bestOf_eq_some_of_least (key := fun k => (s.slot k).dispatchSeq) ?_ fun k hk h => ?_
  · simp [behind, destination, SlotState.isBehind]
  · obtain ⟨hb, hd⟩ : (s.slot k).state = .behind ∧ (s.slot k).descriptor.destination = d := by
      simpa [SlotState.isBehind_iff] using h
    exact first k hk hb hd

/-! ### The release and its fuel -/

theorem State.releaseBehind_of_active {d : StationNo} (h : s.destinationActive d = true) (n : Nat) :
    State.releaseBehind n d s = s := by
  cases n with
  | zero => rfl
  | succ n => exact if_pos h

theorem State.releaseBehind_of_none {d : StationNo} (h : s.firstBehind d = none) (n : Nat) :
    State.releaseBehind n d s = s := by
  cases n with
  | zero => rfl
  | succ n =>
    unfold State.releaseBehind
    simp only [h, ite_self]

/-- One step of the release: the slot found goes where the peer-state test sends it. -/
theorem State.releaseBehind_of_some {d : StationNo} {j : Tag} (inactive : s.destinationActive d = false)
    (h : s.firstBehind d = some j) (n : Nat) :
    State.releaseBehind (n + 1) d s =
      match s.placementOf j with
      | .ready => s.setSlotState j .ready
      | .parked => s.setSlotState j .parked
      | .ended st => State.releaseBehind n d (s.finishSlot j st) := by
  conv_lhs => unfold State.releaseBehind
  simp only [inactive, h]
  rfl

/-- The slots BEHIND on a destination. -/
def State.behindOn (s : State) (d : StationNo) : Finset Tag :=
  Finset.univ.filter fun k => (s.slot k).state = .behind ∧ (s.slot k).descriptor.destination = d

theorem State.mem_behindOn {d : StationNo} {k : Tag} :
    k ∈ s.behindOn d ↔ (s.slot k).state = .behind ∧ (s.slot k).descriptor.destination = d := by
  simp [State.behindOn]

theorem State.firstBehind_eq_none_iff_behindOn {d : StationNo} : s.firstBehind d = none ↔ s.behindOn d = ∅ := by
  simp [State.firstBehind_eq_none_iff, State.behindOn, Finset.filter_eq_empty_iff]

/-- A slot that becomes DONE is BEHIND no more, and the others stay as they were. -/
theorem State.behindOn_finishSlot (d : StationNo) (j : Tag) (st : Status) :
    (s.finishSlot j st).behindOn d = (s.behindOn d).erase j := by
  ext k
  rw [Finset.mem_erase, State.mem_behindOn, State.mem_behindOn, State.slot_finishSlot]
  by_cases h : k = j <;> simp [h]

/-- Fuel for every BEHIND slot of the destination is enough: one more changes nothing. -/
theorem State.releaseBehind_succ {d : StationNo} (n : Nat) (h : (s.behindOn d).card ≤ n) :
    State.releaseBehind (n + 1) d s = State.releaseBehind n d s := by
  induction n generalizing s with
  | zero =>
    have none := State.firstBehind_eq_none_iff_behindOn.2 (Finset.card_eq_zero.1 (Nat.le_zero.1 h))
    rw [State.releaseBehind_of_none none, State.releaseBehind_of_none none]
  | succ n ih =>
    cases active : s.destinationActive d with
    | true => rw [State.releaseBehind_of_active active, State.releaseBehind_of_active active]
    | false =>
      cases first : s.firstBehind d with
      | none => rw [State.releaseBehind_of_none first, State.releaseBehind_of_none first]
      | some j =>
        have fewer (st : Status) : ((s.finishSlot j st).behindOn d).card ≤ n := by
          have hj : j ∈ s.behindOn d := State.mem_behindOn.2 (State.firstBehind_eq_some first)
          rw [State.behindOn_finishSlot, Finset.card_erase_of_mem hj]
          omega
        rw [State.releaseBehind_of_some active first, State.releaseBehind_of_some active first]
        cases s.placementOf j with
        | ready | parked => rfl
        | ended st => exact ih (fewer st)

/-- With the destination active still, or no slot BEHIND on it, only the ended slot changes (R42). -/
theorem State.endSlot_eq_finishSlot {i : Tag} (st : Status)
    (h : (∃ k, k ≠ i ∧ (s.slot k).state.isActive = true ∧
          (s.slot k).descriptor.destination = (s.slot i).descriptor.destination) ∨
      ∀ k, k ≠ i → (s.slot k).state = .behind →
        (s.slot k).descriptor.destination ≠ (s.slot i).descriptor.destination) :
    s.endSlot i st = s.finishSlot i st := by
  rcases h with ⟨k, hk, active, destination⟩ | none
  · refine State.releaseBehind_of_active (State.destinationActive_iff.2 ⟨k, ?_⟩) 8
    rw [State.slot_finishSlot, if_neg hk]
    exact ⟨active, destination⟩
  · refine State.releaseBehind_of_none (State.firstBehind_eq_none_iff.2 fun k => ?_) 8
    rw [State.slot_finishSlot]
    by_cases hk : k = i
    · simp [hk]
    · rw [if_neg hk]
      exact none k hk

/-- With no other slot active on the destination, the first of its BEHIND slots goes where the peer-state test sends it (R42). -/
theorem State.endSlot_releases {i j : Tag} (st : Status) (hj : j ≠ i) (behind : (s.slot j).state = .behind)
    (destination : (s.slot j).descriptor.destination = (s.slot i).descriptor.destination)
    (others : ∀ k, k ≠ i → k ≠ j → (s.slot k).descriptor.destination = (s.slot i).descriptor.destination →
      (s.slot k).state.isActive = false ∧
        ((s.slot k).state = .behind → (s.slot j).dispatchSeq < (s.slot k).dispatchSeq)) :
    s.endSlot i st =
      match s.placementOf j with
      | .ready => (s.finishSlot i st).setSlotState j .ready
      | .parked => (s.finishSlot i st).setSlotState j .parked
      | .ended st' => (s.finishSlot i st).endSlot j st' := by
  have slot_i : ((s.finishSlot i st).slot i).state = .done st s.requester.doneNext := by
    simp [State.slot_finishSlot]
  have slot_ne {k : Tag} (hk : k ≠ i) : (s.finishSlot i st).slot k = s.slot k := by
    rw [State.slot_finishSlot, if_neg hk]
  have inactive : (s.finishSlot i st).destinationActive (s.slot i).descriptor.destination = false := by
    rw [← Bool.not_eq_true, State.destinationActive_iff]
    rintro ⟨k, active, hd⟩
    by_cases hk : k = i
    · simp [hk, slot_i, SlotState.isActive] at active
    · rw [slot_ne hk] at active hd
      by_cases hkj : k = j
      · simp [hkj, behind, SlotState.isActive] at active
      · simp [(others k hk hkj hd).1] at active
  have first : (s.finishSlot i st).firstBehind (s.slot i).descriptor.destination = some j := by
    refine State.firstBehind_eq_some_of_first (by rw [slot_ne hj, behind]) (by rw [slot_ne hj, destination])
      fun k hkj hb hd => ?_
    have hk : k ≠ i := by
      rintro rfl
      simp [slot_i] at hb
    rw [slot_ne hk] at hb hd
    rw [slot_ne hj, slot_ne hk]
    exact (others k hk hkj hd).2 hb
  have placed : (s.finishSlot i st).placementOf j = s.placementOf j := by
    simp only [State.placementOf, slot_ne hj, State.peer, State.finishSlot_frame]
  rw [State.endSlot, State.releaseBehind_of_some inactive first, placed]
  cases s.placementOf j with
  | ready | parked => rfl
  | ended st' =>
    have few : (((s.finishSlot i st).finishSlot j st').behindOn (s.slot i).descriptor.destination).card ≤ 7 := by
      have : i ∉ ((s.finishSlot i st).finishSlot j st').behindOn (s.slot i).descriptor.destination := by
        rw [State.behindOn_finishSlot, State.behindOn_finishSlot]
        simp
      exact Nat.le_of_lt_succ (Finset.card_lt_univ_of_notMem this)
    simp only [State.endSlot, slot_ne hj, destination, State.releaseBehind_succ 7 few]

/-- Settles O30: entry to DONE is the slot's own ending and then one step of the release; the fuel of eight slots is never the bound. -/
theorem entryToDoneReleasesTheNext : Obligations.EntryToDoneReleasesTheNext := by
  intro s i st d ended
  refine ⟨State.endSlot_eq_finishSlot st, ?_⟩
  intro j hj behind destination others put
  have released := State.endSlot_releases st hj behind destination others
  have same : (s.finishSlot i st).slot j = s.slot j := by rw [State.slot_finishSlot, if_neg hj]
  have put_eq (y : SlotState) : (s.finishSlot i st).setSlotState j y = put y := by
    rw [State.setSlotState, same]
    rfl
  have placed : s.placementOf j = placement (s.slot j).descriptor.urgency (s.peer d).state := by
    rw [State.placementOf, destination]
  refine ⟨fun present => ?_, fun l quiet => ?_, fun st' ending => ?_⟩
  · rw [released, placed, present]
    exact put_eq .ready
  · rw [released, placed, quiet, placement]
    by_cases h : (s.slot j).descriptor.urgency ≤ l
    · simp only [if_pos h]
      exact put_eq .parked
    · simp only [if_neg h]
      exact put_eq .ready
  · have ends : s.placementOf j = .ended st' := by
      rcases ending with ⟨peer, rfl⟩ | ⟨peer, rfl⟩ | ⟨peer, rfl⟩ <;> rw [placed, peer] <;> rfl
    have chained : s.endSlot i st = ended.endSlot j st' := by
      rw [released, ends]
      rfl
    exact ⟨chained, by rw [chained, State.endSlot_slot_self, show ended.slot j = s.slot j from same]⟩

end Sys2Proof.Machine
end

section
/-! The requester's own commands: dispatch, direct completion, PUSH and ABORT-ALL. -/

namespace Sys2Proof.Machine

variable {s : State}

/-! ### Dispatch -/

/-- The index below which no other is allowed is the one `lowestOf` finds. -/
theorem lowestOf_eq_some_of_least {allowed : Fin 8 → Bool} {i : Fin 8} (hi : allowed i = true)
    (least : ∀ j, j < i → allowed j = false) : lowestOf allowed = some i := by
  cases h : lowestOf allowed with
  | none => simp [lowestOf_eq_none.1 h i] at hi
  | some j =>
    obtain ⟨hj, lower⟩ := lowestOf_eq_some h
    rcases lt_trichotomy j i with hlt | rfl | hlt
    · simp [least j hlt] at hj
    · rfl
    · simp [lower i hlt] at hi

/-- Another slot holds the destination: it is neither FREE nor DONE (R9). -/
theorem State.heldByAnother_iff {i : Tag} {d : StationNo} :
    s.heldByAnother i d = true ↔ ∃ j, j ≠ i ∧ (s.slot j).descriptor.destination = d ∧
      (s.slot j).state.isFree = false ∧ (s.slot j).state.isDone = false := by
  simp only [State.heldByAnother, List.any_eq_true, List.mem_finRange, true_and, Bool.and_eq_true, bne_iff_ne,
    Bool.or_eq_true, beq_iff_eq, SlotState.active_or_behind_iff]
  exact exists_congr fun j => by tauto

/-- The state in which the head has moved into slot `i`, before R9 and R10 place it. -/
def State.moved (s : State) (d : Descriptor) (rest : List Descriptor) (i : Tag) : State :=
  ((s.setSlot i ((s.slot i).dispatched d s.requester.dispatchSeq)).setQueue rest).onRequester fun r =>
    { r with dispatchSeq := r.dispatchSeq + 1 }

theorem State.moved_slot (d : Descriptor) (rest : List Descriptor) (i j : Tag) :
    (s.moved d rest i).slot j = if j = i then (s.slot i).dispatched d s.requester.dispatchSeq else s.slot j :=
  s.slot_setSlot i j _

/-- A dispatch moves the head into its slot; the slot stays BEHIND when another holds the destination, and is placed otherwise. -/
theorem State.dispatchInto_eq (d : Descriptor) (rest : List Descriptor) (i : Tag) :
    s.dispatchInto d rest i =
      if s.heldByAnother i d.destination then s.moved d rest i else (s.moved d rest i).placeSlot i := by
  have held : (s.moved d rest i).heldByAnother i d.destination = s.heldByAnother i d.destination := by
    rw [Bool.eq_iff_iff, State.heldByAnother_iff, State.heldByAnother_iff]
    refine exists_congr fun j => and_congr_right fun hj => ?_
    rw [State.moved_slot, if_neg hj]
  rw [← held]
  rfl

/-- The slot moved into, put into a state, with `n` places of the done order taken. -/
theorem State.moved_setSlotState (d : Descriptor) (rest : List Descriptor) (i : Tag) (y : SlotState) (n : Nat) :
    (((s.moved d rest i).setSlotState i y).onRequester fun r => { r with doneNext := r.doneNext + n }) =
      { s with
        requester :=
          { queue := rest, drainCount := s.requester.drainCount, fenceWait := fenceAtHead rest
            dispatchSeq := s.requester.dispatchSeq + 1
            doneNext := s.requester.doneNext + n
            slots := s.requester.slots.set i
              { (s.slot i).dispatched d s.requester.dispatchSeq with state := y } } } := by
  rw [State.setSlotState, State.moved_slot, if_pos rfl]
  simp only [State.setSlot, State.moved, State.setQueue, State.onRequester, Vector.set_set]

/-- Where the peer-state test puts the slot moved into, when no other slot holds its destination (R10). -/
theorem State.moved_placeSlot {d : Descriptor} (rest : List Descriptor) {i : Tag}
    (alone : s.heldByAnother i d.destination = false) :
    (s.moved d rest i).placeSlot i =
      match placement d.urgency (s.peer d.destination).state with
      | .ready => (s.moved d rest i).setSlotState i .ready
      | .parked => (s.moved d rest i).setSlotState i .parked
      | .ended st => (s.moved d rest i).finishSlot i st := by
  have self : (s.moved d rest i).slot i = (s.slot i).dispatched d s.requester.dispatchSeq := by
    rw [State.moved_slot, if_pos rfl]
  have placed : (s.moved d rest i).placementOf i = placement d.urgency (s.peer d.destination).state := by
    rw [State.placementOf, self]
    rfl
  have noneBehind (k : Tag) (hk : k ≠ i) (behind : ((s.moved d rest i).slot k).state = .behind) :
      ((s.moved d rest i).slot k).descriptor.destination ≠ ((s.moved d rest i).slot i).descriptor.destination := by
    rw [State.moved_slot, if_neg hk] at behind ⊢
    rw [self]
    intro destination
    have : s.heldByAnother i d.destination = true :=
      State.heldByAnother_iff.2 ⟨k, hk, destination, by simp [behind, SlotState.isFree],
        by simp [behind, SlotState.isDone]⟩
    simp [this] at alone
  rw [State.placeSlot, placed]
  cases placement d.urgency (s.peer d.destination).state with
  | ready | parked => rfl
  | ended st => exact State.endSlot_eq_finishSlot st (.inr noneBehind)

/-- Settles O21: the head moves into the slot, which stays BEHIND or goes where the peer-state test sends it. -/
theorem dispatchFillsTheLowestFreeSlot : Obligations.DispatchFillsTheLowestFreeSlot := by
  intro s d rest i active drain fence hq kind free lowest st done placing
  have chosen : s.dispatchable = some (d, rest, i) := by
    refine State.dispatchable_eq_some.2 ⟨hq, lowestOf_eq_some_of_least ?_ fun j hj => ?_, active, drain, fence, kind⟩
    · exact SlotState.isFree_iff.2 free
    · rw [← Bool.not_eq_true, SlotState.isFree_iff]
      exact lowest j hj
  have placed : s.dispatchInto d rest i =
      (((s.moved d rest i).setSlotState i st).onRequester fun r => { r with doneNext := r.doneNext + done }) := by
    rw [State.dispatchInto_eq]
    rcases placing with ⟨held, rfl, rfl⟩ | ⟨alone, peer⟩
    · rw [if_pos (State.heldByAnother_iff.2 held), State.moved_setSlotState]
      rfl
    · have alone : s.heldByAnother i d.destination = false := by
        rw [← Bool.not_eq_true, State.heldByAnother_iff]
        rintro ⟨j, hj, destination, notFree, notDone⟩
        rcases alone j hj destination with isFree | isDone
        · simp [isFree] at notFree
        · simp [isDone] at notDone
      rw [if_neg (by simp [alone]), State.moved_placeSlot rest alone]
      cases hp : (s.peer d.destination).state with
      | self => simp [hp] at peer
      | present =>
        obtain ⟨rfl, rfl⟩ := by simpa only [hp] using peer
        rfl
      | quiet l =>
        obtain ⟨rfl, rfl⟩ := by simpa only [hp] using peer
        by_cases level : d.urgency ≤ l <;> simp only [placement, level, if_true, if_false] <;> rfl
      | absent | silent | mismatched =>
        obtain ⟨rfl, rfl⟩ := by simpa only [hp] using peer
        rfl
  change Host.Outcome.next _ = _
  rw [chosen]
  simp only [placed, State.moved_setSlotState, drain]
  rfl

/-- Settles O22: a dispatch needs every condition of R6. -/
theorem dispatchIsHeldBack : Obligations.DispatchIsHeldBack := by
  intro s held
  have none : s.dispatchable = none := by
    rw [Option.eq_none_iff_forall_ne_some]
    rintro ⟨d, rest, i⟩ chosen
    obtain ⟨hq, hi, active, drain, fence, -⟩ := State.dispatchable_eq_some.1 chosen
    rcases held with empty | inactive | draining | waits | full
    · simp [empty] at hq
    · exact inactive active
    · omega
    · simp [waits] at fence
    · exact full i (SlotState.isFree_iff.1 (lowestOf_eq_some hi).1)
  change Host.Outcome.next _ = _
  rw [none]

/-! ### Direct completion -/

theorem State.oldestDone_eq_none_iff : s.oldestDone = none ↔ ∀ i, (s.slot i).state.isDone = false := by
  simp [State.oldestDone, bestOf_eq_none]

/-- A direct completion takes the head when there is room, no slot is DONE and a status awaits it (R17). -/
theorem execDirectCompletion_of_status {d : Descriptor} {rest : List Descriptor} {st : Status}
    (hq : s.requester.queue = d :: rest) (room : s.completions.records.length < 16)
    (idle : ∀ i, (s.slot i).state.isDone = false) (status : s.directStatus d = some st) :
    execDirectCompletion s = .next (s.completeHead d rest st) := by
  have ready : s.completionRoom ∧ s.oldestDone = none :=
    ⟨State.completionRoom_iff.2 room, State.oldestDone_eq_none_iff.2 idle⟩
  simp only [execDirectCompletion, hq, if_pos ready, status]

/-- Without room, with a slot DONE, or with no status for the head, a direct completion changes nothing (R17). -/
theorem execDirectCompletion_of_waiting
    (waits : s.completionRoom = true → s.oldestDone = none → ∀ d rest, s.requester.queue = d :: rest →
      s.directStatus d = none) : execDirectCompletion s = .next s := by
  unfold execDirectCompletion
  congr 1
  split
  · rfl
  · rename_i d rest hq
    split
    · rename_i ready
      rw [waits ready.1 ready.2 d rest hq]
    · rfl

/-- The status the head awaits, by the drain, the station state and the slots (R12, R15, R16). -/
theorem State.directStatus_eq_some {d : Descriptor} {st : Status}
    (h : 0 < s.requester.drainCount ∧ st = .aborted ∨
      s.requester.drainCount = 0 ∧ s.controller.station = .isolated ∧ st = .stationIsolated ∨
      s.requester.drainCount = 0 ∧ s.controller.station = .active ∧ d.kind = .fence ∧
        (∀ i, (s.slot i).state = .free) ∧ st = .ok) : s.directStatus d = some st := by
  unfold State.directStatus
  rcases h with ⟨drain, rfl⟩ | ⟨drain, isolated, rfl⟩ | ⟨drain, active, kind, free, rfl⟩
  · rw [if_pos drain]
  · rw [if_neg (by omega), if_pos isolated]
  · rw [if_neg (by omega), if_neg (by simp [active]), if_pos ⟨kind, active, by simp [free, SlotState.isFree]⟩]

theorem State.directStatus_eq_none {d : Descriptor} (drain : s.requester.drainCount = 0)
    (station : s.controller.station ≠ .isolated)
    (h : s.controller.station ≠ .active ∨ (∃ i, (s.slot i).state ≠ .free) ∨ d.kind ≠ .fence) :
    s.directStatus d = none := by
  unfold State.directStatus
  rw [if_neg (by omega), if_neg station, if_neg]
  rintro ⟨kind, active, free⟩
  rcases h with inactive | ⟨i, busy⟩ | other
  · exact inactive active
  · exact busy (SlotState.isFree_iff.1 (List.all_eq_true.1 free i (List.mem_finRange i)))
  · exact other kind

/-- Every status code fits the five bits that 12.3 gives it. -/
theorem Status.code_lt (st : Status) : st.code < 32 := by
  cases st with
  | refused c => cases c <;> decide
  | _ => decide

/-- A direct completion's record shows the tag 0xF and no last cause (12.3). -/
theorem recordWord_of_direct {r : CompletionRecord} (tag : r.tag = none) (cause : r.lastCause = none) :
    (completionWord (some r) 1).toNat % 16 = 0xF ∧ (completionWord (some r) 2).toNat / 32 = 0 := by
  have := r.status.code_lt
  constructor
  · simp only [completionWord, recordWord, tag, shownTag, BitVec.toNat_ofNat]
    omega
  · simp only [completionWord, recordWord, cause, lastCauseCode, BitVec.toNat_ofNat]
    omega

/-- Settles O24: the head leaves exactly when there is room, no slot is DONE and a status awaits it. -/
theorem directCompletionTakesTheHead : Obligations.DirectCompletionTakesTheHead := by
  refine ⟨fun s d rest st hq room idle status => ?_, fun s waits => ?_, fun r => recordWord_of_direct⟩
  · exact execDirectCompletion_of_status hq room idle (State.directStatus_eq_some status)
  · refine execDirectCompletion_of_waiting fun room idle d rest hq => ?_
    rcases waits with full | ⟨i, done⟩ | ⟨drain, station, h⟩
    · exact absurd (State.completionRoom_iff.1 room) (Nat.not_lt.2 full)
    · simp [State.oldestDone_eq_none_iff.1 idle i] at done
    · exact State.directStatus_eq_none drain station (h.imp_right (Or.imp_right fun other => other d rest hq))

/-! ### PUSH -/

/-- PUSH's checks on the copy, as R3 lists them. -/
theorem Descriptor.passes_iff {d : Descriptor} {own : StationNo} :
    d.passes own = true ↔
      d.kind = .fence ∨ (d.destination ≠ own ∧ 1 ≤ d.length ∧ d.length ≤ 256 ∧
        d.stagingOffset + d.length ≤ Config.stagingSize) := by
  simp [Descriptor.passes, and_assoc]

/-- What PUSH takes: the copy of the build registers, of the kind the kind code names, when it passes the checks. -/
theorem State.pushed_eq_some {d : Descriptor} :
    s.pushed = some d ↔ ∃ k, descriptorKindOf s.hostPort.build.kind = some k ∧
      (s.hostPort.build.descriptor k).passes s.own = true ∧ s.hostPort.build.descriptor k = d := by
  unfold State.pushed
  cases descriptorKindOf s.hostPort.build.kind with
  | none => simp
  | some k => simp

/-- The kind a kind code names is the one of that code. -/
theorem descriptorKindOf_eq_some {code : BitVec 2} {k : DescriptorKind} :
    descriptorKindOf code = some k ↔ k.code = code.toNat := by
  revert code
  cases k <;> decide

/-- A descriptor's destination is the own station when the register's bits are its number. -/
theorem DescriptorBuild.descriptor_destination_eq_iff {b : DescriptorBuild} {k : DescriptorKind} {own : StationNo} :
    (b.descriptor k).destination = own ↔ b.destination.toNat = own.val := by
  have := b.destination.isLt
  rw [DescriptorBuild.descriptor, Fin.ext_iff, Fin.val_ofNat, Nat.mod_eq_of_lt this]

/-- The build registers hold a valid descriptor, as R3 lists the checks. -/
def DescriptorBuild.Valid (b : DescriptorBuild) (own : StationNo) : Prop :=
  b.kind = 3 ∨
    ((b.kind = 1 ∨ b.kind = 2) ∧ b.destination.toNat ≠ own.val ∧ 1 ≤ b.length.toNat ∧ b.length.toNat ≤ 256 ∧
      b.stagingOffset.toNat + b.length.toNat ≤ 8192)

/-- The copy of a valid descriptor, of the kind of its code, passes the checks, and no other does. -/
theorem DescriptorBuild.valid_iff {b : DescriptorBuild} {own : StationNo} :
    b.Valid own ↔ ∃ k, k.code = b.kind.toNat ∧ (b.descriptor k).passes own = true := by
  have kind_eq (k : DescriptorKind) : k.code = b.kind.toNat ↔ b.kind = BitVec.ofNat 2 k.code := by
    rw [← BitVec.toNat_inj, BitVec.toNat_ofNat]
    cases k <;> exact eq_comm
  simp only [Descriptor.passes_iff, Ne, DescriptorBuild.descriptor_destination_eq_iff, kind_eq]
  constructor
  · rintro (fence | ⟨read | write, checks⟩)
    · exact ⟨.fence, fence, .inl rfl⟩
    · exact ⟨.read, read, .inr checks⟩
    · exact ⟨.write, write, .inr checks⟩
  · rintro ⟨k, code, fence | checks⟩
    · obtain rfl : k = .fence := fence
      exact .inl code
    · cases k with
      | fence => exact .inl code
      | read => exact .inr ⟨.inl code, checks⟩
      | write => exact .inr ⟨.inr code, checks⟩

theorem execPush_of_invalid (released : s.hostPort.resetAsserted = false) (h : s.pushed = none) :
    execPush s = .next (s.withResult .refusedInvalid) := by
  rw [execPush, State.hostTakes_of_released released, h]

theorem execPush_of_full {d : Descriptor} (released : s.hostPort.resetAsserted = false) (h : s.pushed = some d)
    (full : Config.requestCapacity ≤ s.requester.queue.length) :
    execPush s = .next (s.withResult .refusedFull) := by
  rw [execPush, State.hostTakes_of_released released, h]
  simp only [if_neg (Nat.not_lt.2 full)]

theorem execPush_of_room {d : Descriptor} (released : s.hostPort.resetAsserted = false) (h : s.pushed = some d)
    (room : s.requester.queue.length < Config.requestCapacity) :
    execPush s = .next ((s.setQueue (s.requester.queue ++ [d])).withResult .accepted) := by
  rw [execPush, State.hostTakes_of_released released, h]
  simp only [if_pos room]

/-- Settles O5: PUSH takes the copy exactly when it is valid and the queue has room. -/
theorem pushTakesOrRefusesTheDescriptor : Obligations.PushTakesOrRefusesTheDescriptor := by
  intro s released b valid
  have valid_iff : valid ↔ ∃ k, k.code = b.kind.toNat ∧ (b.descriptor k).passes s.own = true :=
    DescriptorBuild.valid_iff
  have pushed {k : DescriptorKind} (code : k.code = b.kind.toNat) (passes : (b.descriptor k).passes s.own = true) :
      s.pushed = some (b.descriptor k) :=
    State.pushed_eq_some.2 ⟨k, descriptorKindOf_eq_some.2 code, passes, rfl⟩
  refine ⟨fun invalid => execPush_of_invalid released ?_, fun hv full => ?_, fun hv room => ?_⟩
  · rw [Option.eq_none_iff_forall_ne_some]
    intro d taken
    obtain ⟨k, kind, passes, -⟩ := State.pushed_eq_some.1 taken
    exact invalid (valid_iff.2 ⟨k, descriptorKindOf_eq_some.1 kind, passes⟩)
  · obtain ⟨k, code, passes⟩ := valid_iff.1 hv
    exact execPush_of_full released (pushed code passes) full
  · obtain ⟨k, code, passes⟩ := valid_iff.1 hv
    exact ⟨k, code, execPush_of_room released (pushed code passes) room⟩

/-! ### ABORT-ALL -/

/-- Ending some slots and then marking others, as one update of the slots. -/
theorem State.endSlots_markSlots (which marked : Tag → Bool) (st : Status) (f : Slot → Slot)
    (apart : ∀ i, which i = true → marked i = false) :
    (s.endSlots which st).markSlots marked f =
      { s with
        requester := { s.requester with
          doneNext := s.requester.doneNext + (List.finRange 8).countP which
          slots := Vector.ofFn fun i =>
            if which i then
              { s.slot i with
                state := .done st
                  (s.requester.doneNext + (List.finRange 8).countP fun j => which j && s.dispatchedBefore j i) }
            else if marked i then f (s.slot i)
            else s.slot i } } := by
  have slots (i : Tag) :
      (if marked i then f ((s.endSlots which st).slot i) else (s.endSlots which st).slot i) =
        if which i then
          { s.slot i with
            state := .done st
              (s.requester.doneNext + (List.finRange 8).countP fun j => which j && s.dispatchedBefore j i) }
        else if marked i then f (s.slot i)
        else s.slot i := by
    rw [State.slot_endSlots]
    by_cases h : which i = true
    · simp [h, apart i h]
    · simp [h]
  simp only [State.markSlots, slots]
  rfl

/-- An unbegun SEGMENT is withdrawn, and any other content of the transmit register stays (R29). -/
theorem State.withdrawSegment_eq (s : State) :
    s.withdrawSegment =
      { s with
        link :=
          match s.link.tx, s.link.begun with
          | some (.segment _ _), false => { s.link with tx := none, begun := false, contending := false }
          | _, _ => s.link } := by
  unfold State.withdrawSegment
  cases s.link.begun <;> rcases s.link.tx with _ | ⟨_, _⟩ | _ <;> rfl

/-- Settles O13: the ended and the marked slots are apart, and the withdrawal depends on the transmit register alone. -/
theorem abortAllEndsWaitingSlotsAndDrains : Obligations.AbortAllEndsWaitingSlotsAndDrains := by
  intro s released flying waiting before
  have waiting_eq : s.waiting = waiting := funext s.waiting_eq
  have ended := s.endSlots_markSlots waiting flying .aborted (fun x => { x with abortMark := true })
    fun i h => State.inFlight_of_waiting (waiting_eq ▸ h)
  refine (State.hostTakes_of_released released _).trans ?_
  rw [waiting_eq]
  change Host.Outcome.next (((((s.endSlots waiting .aborted).markSlots flying _).withdrawSegment).onRequester _).withResult _) = _
  rw [ended, State.withdrawSegment_eq]
  rfl

end Sys2Proof.Machine
end

section
/-! The resets: what they leave, that a host access is lost while RESETN stays asserted, and that reset is safe. -/

namespace Sys2Proof.Machine

variable {s : State}

/-! ### What a reset leaves in each place -/

/-- After a reset every slot is FREE with generation 0. -/
theorem State.slot_of_reset {t : State} (h : t.requester = Requester.reset) (i : Tag) : t.slot i = Slot.freed 0 := by
  simp [State.slot, h, Requester.reset]

/-- After a reset every context entry is FREE. -/
theorem State.context_of_reset {t : State} (h : t.responder = Responder.reset) (j : EntryNo) :
    t.context j = Context.empty := by
  simp [State.context, h, Responder.reset]

/-- After the clearing the own record is SELF and every other ABSENT. -/
theorem State.peer_of_cleared {t : State} {own : StationNo} (h : t.peers = clearedPeers own) (d : StationNo) :
    t.peer d = PeerRecord.cleared (if d = own then .self else .absent) := by
  simp [State.peer, h, clearedPeers]

/-- A state whose queues are those of a reset asserts no HINT. -/
theorem State.hint_of_reset {t : State} (completions : t.completions = Completions.reset)
    (notices : t.notices = Notices.reset) : t.hint = false := by
  simp [State.hint, completions, notices, Completions.reset, Notices.reset]

/-! ### Host accesses while RESETN is asserted -/

/-- A command of the command register is a host access. -/
theorem exec_commandOf_of_asserted (w : Word) (asserted : s.hostPort.resetAsserted = true) :
    exec (commandOf w) s = .next s := by
  unfold commandOf
  split <;> exact State.hostTakes_of_asserted asserted _

/-- The command of a host write is not taken while RESETN is asserted (R187). -/
theorem exec_hostWrite_of_asserted {a : Byte} {v : Word} {l : Lanes} {c : Instr} (h : hostWrite a v l = some c)
    (asserted : s.hostPort.resetAsserted = true) : exec c s = .next s := by
  unfold hostWrite at h
  split at h
  · obtain rfl := Option.some.inj h
    split
    · exact exec_commandOf_of_asserted v asserted
    · (repeat' split) <;> exact State.hostTakes_of_asserted asserted _
  · cases h

/-- The capture of a host read is not taken while RESETN is asserted (R187). -/
theorem exec_hostReadCapture_of_asserted {a : Byte} {c : Instr} (h : hostReadCapture a = some c)
    (asserted : s.hostPort.resetAsserted = true) : exec c s = .next s := by
  unfold hostReadCapture at h
  split at h <;> cases h <;> exact State.hostTakes_of_asserted asserted _

/-- Settles O15: block by block, each reset leaves its own reset values. -/
theorem resetsLeaveTheirValues : Obligations.ResetsLeaveTheirValues := by
  intro s
  refine ⟨fun released => ⟨s.softReset, State.hostTakes_of_released released _, ?_⟩,
    fun straps held => ⟨State.cold straps.sid straps.rate s.target.pins held s.pending, rfl, ?_⟩,
    fun asserted => ⟨fun a => by simp [State.hostRead, asserted], fun a v l c access => ?_⟩⟩
  · refine ⟨rfl, rfl, rfl, rfl, rfl, fun i => ?_, rfl, fun j => ?_, rfl, rfl, rfl, rfl, rfl, rfl, rfl, rfl, rfl, rfl, rfl, rfl,
      rfl, rfl, rfl, fun d => ?_, rfl, rfl, rfl, rfl, State.hint_of_reset rfl rfl, rfl⟩
    · rw [State.slot_of_reset rfl]
      exact ⟨rfl, rfl⟩
    · rw [State.context_of_reset rfl]
      exact ⟨rfl, rfl⟩
    · exact State.peer_of_cleared (t := s.softReset) (own := s.own) rfl d
  · refine ⟨rfl, rfl, rfl, rfl, rfl, fun i => ?_, fun a => rfl, fun j => ?_, rfl, rfl, rfl, fun n => ?_, rfl, rfl, rfl, rfl,
      rfl, rfl, rfl, rfl, rfl, rfl, rfl, fun d => ?_, rfl, rfl, rfl, rfl, State.hint_of_reset rfl rfl, rfl⟩
    · rw [State.slot_of_reset rfl]
      exact ⟨rfl, rfl⟩
    · rw [State.context_of_reset rfl]
      exact ⟨rfl, rfl⟩
    · exact Vector.getElem_replicate n.isLt
    · exact State.peer_of_cleared (t := State.cold ..) (own := straps.sid) rfl d
  · exact access.elim (exec_hostWrite_of_asserted · asserted) (exec_hostReadCapture_of_asserted · asserted)

/-- Settles O60: right after reset every queue and register is empty, every slot and entry FREE, and the own record alone is SELF. -/
theorem resetIsSafe : Obligations.ResetIsSafe := by
  have slots : ∀ i, State.reset.slot i = Slot.freed 0 := State.slot_of_reset rfl
  have contexts : ∀ j, State.reset.context j = Context.empty := State.context_of_reset rfl
  have peers : ∀ d, State.reset.peer d = PeerRecord.cleared (if d = 0 then .self else .absent) :=
    State.peer_of_cleared rfl
  have loaded : State.reset.loadedSlot = none := rfl
  exact
    { staging := rfl
      queues := State.cold_queuesKept _ _ _ _ _
      lock := by decide
      ownRecord := fun d => by
        rw [peers, show State.reset.own = 0 from rfl]
        by_cases h : d = 0 <;> simp [PeerRecord.cleared, h]
      linkCounts := by decide
      silent := fun _ => ⟨rfl, rfl, rfl, rfl, rfl, rfl, fun j => by rw [contexts]; rfl⟩
      exchanges := by
        simp [State.exchangesKept, slots, loaded, Slot.freed, SlotState.isContending, SlotState.isAwaiting]
      cycling := fun j => by
        rw [contexts]
        exact iff_of_false Bool.false_ne_true (Option.some_ne_none j).symm
      keys := fun i j busy => by
        rw [contexts] at busy
        exact absurd rfl busy
      reset := fun asserted => by cases asserted }

end Sys2Proof.Machine
end

section
/-! Register writes: which register an address names, the merge of a write's strobed halves, and the descriptor-build words. -/

namespace Sys2Proof.Machine

variable {s : State}

/-! ### The host map -/

theorem hostRegister_build {a : Byte} {k : Fin 9} (h : a.toNat = 0x10 + k.val) : hostRegister a = .build k := by
  obtain rfl : a = BitVec.ofNat 8 (0x10 + k.val) := by rw [← h, BitVec.ofNat_toNat, BitVec.setWidth_eq]
  clear h
  revert k
  decide

theorem hostRegister_enables {a : Byte} (h : a.toNat = 0x06) : hostRegister a = .enables := by
  obtain rfl : a = 0x06 := BitVec.eq_of_toNat_eq h
  rfl

theorem hostRegister_page {a : Byte} (h : a.toNat = 0x07) : hostRegister a = .page := by
  obtain rfl : a = 0x07 := BitVec.eq_of_toNat_eq h
  rfl

/-- The registers that keep no bit of a plain write (R196). -/
def HostRegister.Ignored : HostRegister → Prop
  | .build _ | .enables | .page => False
  | _ => True

/-- Outside the build words, the enables and the page an address names a register that ignores a plain write. -/
theorem hostRegister_ignored {a : Byte} (build : ¬(0x10 ≤ a.toNat ∧ a.toNat ≤ 0x18)) (enables : a.toNat ≠ 0x06)
    (page : a.toNat ≠ 0x07) : (hostRegister a).Ignored := by
  unfold hostRegister
  repeat' refine iteInduction (motive := HostRegister.Ignored) (fun _ => ?_) fun _ => ?_
  any_goals trivial
  all_goals omega

/-! ### The merge of the strobed halves -/

theorem wordOf_toNat (lo hi : Byte) : (wordOf lo hi).toNat = lo.toNat + 256 * hi.toNat := by
  have := lo.isLt
  have := hi.isLt
  rw [wordOf, BitVec.toNat_ofNat, Nat.mod_eq_of_lt (by omega)]

theorem lowByte_toNat (w : Word) : (lowByte w).toNat = w.toNat % 256 := by simp [lowByte]

theorem highByte_toNat (w : Word) : (highByte w).toNat = w.toNat / 256 := by
  have := w.isLt
  rw [highByte, BitVec.toNat_ofNat, Nat.mod_eq_of_lt (by omega)]

/-- A written word as a number: each half from the data where it is strobed, and from the old word elsewhere (R187). -/
theorem mergeLanes_toNat (old new : Word) (l : Lanes) :
    (mergeLanes old new l).toNat =
      (if l.low then new.toNat % 256 else old.toNat % 256) +
        256 * (if l.high then new.toNat / 256 else old.toNat / 256 % 256) := by
  have := old.isLt
  rw [mergeLanes, wordOf_toNat, lowByte_toNat, highByte_toNat]
  split_ifs <;> omega

/-! ### The descriptor-build words -/

theorem lowWord_longOf (lo hi : Word) : lowWord (longOf lo hi) = lo := by
  have := lo.isLt
  have := hi.isLt
  apply BitVec.eq_of_toNat_eq
  simp only [lowWord, longOf, BitVec.toNat_ofNat]
  omega

theorem highWord_longOf (lo hi : Word) : highWord (longOf lo hi) = hi := by
  have := lo.isLt
  have := hi.isLt
  apply BitVec.eq_of_toNat_eq
  simp only [highWord, longOf, BitVec.toNat_ofNat]
  omega

/-- A flag of a number is its bit. -/
theorem bitFlag_eq_getLsbD {n : Nat} (v : BitVec n) (k : Nat) : bitFlag v.toNat k = v.getLsbD k := by
  rw [BitVec.getLsbD, Nat.testBit_eq_decide_div_mod_eq, bitFlag, bitField]
  rfl

/-- The bits 12.3 lists for each of the nine descriptor-build words. -/
def buildMask : Vector Word 9 := #v[0x0003, 0x001F, 0xFFFF, 0xFFFF, 0xFFFF, 0xFFFF, 0x0007, 0xFFFF, 0x0001]

/-- The low `n` bits of a word, in a field of `n` bits and read back, are the word cut to them. -/
theorem setWidth_setWidth_eq_and {n : Nat} (h : n ≤ 16) (v : Word) :
    (v.setWidth n).setWidth 16 = v &&& BitVec.ofNat 16 (2 ^ n - 1) := by
  have fits : 2 ^ n ≤ 2 ^ 16 := Nat.pow_le_pow_right (by decide) h
  have positive : 0 < 2 ^ n := Nat.two_pow_pos n
  apply BitVec.eq_of_toNat_eq
  rw [BitVec.toNat_setWidth, BitVec.toNat_setWidth, BitVec.toNat_and, BitVec.toNat_ofNat,
    Nat.mod_eq_of_lt (Nat.lt_of_lt_of_le (Nat.mod_lt _ positive) fits),
    Nat.mod_eq_of_lt (Nat.lt_of_lt_of_le (Nat.sub_lt positive Nat.one_pos) fits), Nat.and_two_pow_sub_one_eq_mod]

/-- A flag read from a bit, as a bit again. -/
theorem flagBit_bitFlag (v k : Nat) : flagBit (bitFlag v k) = bitField v k 1 := by
  have : bitField v k 1 < 2 := Nat.mod_lt _ (by decide)
  unfold bitFlag flagBit
  split <;> simp_all
  omega

/-- A build word that has been written reads as the word, cut to its listed bits (R196). -/
theorem buildWord_setBuildWord_self (b : DescriptorBuild) (k : Fin 9) (v : Word) :
    buildWord (setBuildWord b k v) k = v &&& buildMask[k] := by
  have whole : v &&& 0xFFFF = v := BitVec.and_allOnes
  match k with
  | 0 => exact setWidth_setWidth_eq_and (n := 2) (by decide) v
  | 1 => exact setWidth_setWidth_eq_and (n := 5) (by decide) v
  | 2 => exact (lowWord_longOf v _).trans whole.symm
  | 3 => exact (highWord_longOf _ v).trans whole.symm
  | 4 | 5 | 7 => exact whole.symm
  | 6 => exact setWidth_setWidth_eq_and (n := 3) (by decide) v
  | 8 =>
    have bit : BitVec.ofNat 16 (flagBit (bitFlag v.toNat 0)) = (v.setWidth 1).setWidth 16 := by
      apply BitVec.eq_of_toNat_eq
      simp [flagBit_bitFlag, bitField]
    exact bit.trans (setWidth_setWidth_eq_and (n := 1) (by decide) v)

/-- A write to one build word leaves the other words. -/
theorem buildWord_setBuildWord_of_ne (b : DescriptorBuild) {k j : Fin 9} (h : j ≠ k) (v : Word) :
    buildWord (setBuildWord b k v) j = buildWord b j := by
  match k with
  | 0 | 1 | 4 | 5 | 6 | 7 | 8 =>
    fin_cases j
    any_goals rfl
    exact absurd rfl h
  | 2 =>
    fin_cases j
    any_goals rfl
    · exact absurd rfl h
    · exact highWord_longOf v _
  | 3 =>
    fin_cases j
    any_goals rfl
    · exact lowWord_longOf _ v
    · exact absurd rfl h

/-- A build register after a write of a word, given as a number: the fields are the bits 12.3 lists for the nine words. -/
def builtFrom (d : DescriptorBuild) (n : Nat) : Vector DescriptorBuild 9 :=
  let address := d.remoteAddress.toNat
  #v[{ d with kind := BitVec.ofNat 2 n },
    { d with destination := BitVec.ofNat 5 n },
    { d with remoteAddress := BitVec.ofNat 32 (n + 65536 * (address / 65536)) },
    { d with remoteAddress := BitVec.ofNat 32 (address % 65536 + 65536 * n) },
    { d with length := BitVec.ofNat 16 n },
    { d with stagingOffset := BitVec.ofNat 16 n },
    { d with urgency := BitVec.ofNat 3 n },
    { d with cookie := BitVec.ofNat 16 n },
    { d with notify := n % 2 == 1 }]

theorem lowWord_toNat (v : BitVec 32) : (lowWord v).toNat = v.toNat % 65536 := BitVec.toNat_ofNat _ _

theorem highWord_toNat (v : BitVec 32) : (highWord v).toNat = v.toNat / 65536 := by
  have := v.isLt
  rw [highWord, BitVec.toNat_ofNat, Nat.mod_eq_of_lt (by omega)]

theorem setBuildWord_eq (d : DescriptorBuild) (k : Fin 9) (v : Word) :
    setBuildWord d k v = (builtFrom d v.toNat)[k] := by
  have same : v = BitVec.ofNat 16 v.toNat := by rw [BitVec.ofNat_toNat, BitVec.setWidth_eq]
  have low : longOf v (highWord d.remoteAddress) =
      BitVec.ofNat 32 (v.toNat + 65536 * (d.remoteAddress.toNat / 65536)) := by rw [longOf, highWord_toNat]
  have high : longOf (lowWord d.remoteAddress) v =
      BitVec.ofNat 32 (d.remoteAddress.toNat % 65536 + 65536 * v.toNat) := by rw [longOf, lowWord_toNat]
  have flag : bitFlag v.toNat 0 = (v.toNat % 2 == 1) := by simp [bitFlag, bitField]
  match k with
  | 0 | 1 | 6 => rfl
  | 2 => exact congrArg (fun x => { d with remoteAddress := x }) low
  | 3 => exact congrArg (fun x => { d with remoteAddress := x }) high
  | 4 => exact congrArg (fun x => { d with length := x }) same
  | 5 => exact congrArg (fun x => { d with stagingOffset := x }) same
  | 7 => exact congrArg (fun x => { d with cookie := x }) same
  | 8 => exact congrArg (fun x => { d with notify := x }) flag

/-- What each build word reads as, as a number. -/
theorem buildWord_toNat (d : DescriptorBuild) (k : Fin 9) :
    (buildWord d k).toNat =
      (#v[d.kind.toNat, d.destination.toNat, d.remoteAddress.toNat % 65536, d.remoteAddress.toNat / 65536, d.length.toNat,
        d.stagingOffset.toNat, d.urgency.toNat, d.cookie.toNat, if d.notify then 1 else 0] : Vector Nat 9)[k] := by
  match k with
  | 0 => exact BitVec.toNat_setWidth_of_le (by decide)
  | 1 => exact BitVec.toNat_setWidth_of_le (by decide)
  | 6 => exact BitVec.toNat_setWidth_of_le (by decide)
  | 2 => exact lowWord_toNat d.remoteAddress
  | 3 => exact highWord_toNat d.remoteAddress
  | 4 | 5 | 7 => rfl
  | 8 => cases h : d.notify <;> simp [buildWord, flagBit, h]

/-! ### The command -/

/-- A write to a build word stores the merged word (R2, R196). -/
theorem execRegisterWrite_build {a : Byte} {k : Fin 9} (v : Word) (l : Lanes)
    (released : s.hostPort.resetAsserted = false) (h : a.toNat = 0x10 + k.val) :
    execRegisterWrite a v l s = .next
      { s with hostPort := { s.hostPort with
          build := setBuildWord s.hostPort.build k (mergeLanes (buildWord s.hostPort.build k) v l) } } := by
  rw [execRegisterWrite, hostRegister_build h, State.hostTakes_of_released released]
  rfl

theorem execRegisterWrite_enables {a : Byte} (v : Word) (l : Lanes) (released : s.hostPort.resetAsserted = false)
    (h : a.toNat = 0x06) :
    execRegisterWrite a v l s = .next
      { s with hostPort := { s.hostPort with
          completionEnable := if l.low then v.getLsbD 0 else s.hostPort.completionEnable
          noticeEnable := if l.low then v.getLsbD 1 else s.hostPort.noticeEnable } } := by
  rw [execRegisterWrite, hostRegister_enables h, State.hostTakes_of_released released, ← bitFlag_eq_getLsbD,
    ← bitFlag_eq_getLsbD]
  cases l.low <;> rfl

theorem execRegisterWrite_page {a : Byte} (v : Word) (l : Lanes) (released : s.hostPort.resetAsserted = false)
    (h : a.toNat = 0x07) :
    execRegisterWrite a v l s = .next
      { s with hostPort := { s.hostPort with
          page := if l.low then BitVec.ofNat 6 (v.toNat % 64) else s.hostPort.page } } := by
  have cut : BitVec.ofNat 6 (v.toNat % 64) = BitVec.ofNat 6 v.toNat := by
    apply BitVec.eq_of_toNat_eq
    simp
  rw [execRegisterWrite, hostRegister_page h, State.hostTakes_of_released released, cut]
  cases l.low <;> rfl

theorem execRegisterWrite_ignored {a : Byte} (v : Word) (l : Lanes) (released : s.hostPort.resetAsserted = false)
    (h : (hostRegister a).Ignored) : execRegisterWrite a v l s = .next s := by
  rw [execRegisterWrite, State.hostTakes_of_released released]
  cases hr : hostRegister a with
  | build | enables | page =>
    rw [hr] at h
    exact h.elim
  | _ => rfl

/-- Settles O18: the write finds its register by its address, and a build word takes its listed bits. -/
theorem registerWritesStoreListedBits : Obligations.RegisterWritesStoreListedBits := by
  intro s a v l released plain
  refine ⟨fun ⟨low, high⟩ => ?_, ⟨fun old => mergeLanes_toNat old v l, fun k h => ?_⟩,
    execRegisterWrite_enables v l released, execRegisterWrite_page v l released,
    fun build enables page => execRegisterWrite_ignored v l released (hostRegister_ignored build enables page)⟩
  · have h : a.toNat = 0x10 + (a.toNat - 0x10) := by omega
    refine ⟨_, execRegisterWrite_build (k := ⟨a.toNat - 0x10, by omega⟩) v l released h, fun k => ?_⟩
    by_cases hk : k = ⟨a.toNat - 0x10, by omega⟩
    · subst hk
      rw [if_pos h]
      exact buildWord_setBuildWord_self _ _ _
    · rw [if_neg (fun e => hk (Fin.ext (by simp; omega)))]
      exact buildWord_setBuildWord_of_ne _ hk _
  · refine (execRegisterWrite_build v l released h).trans ?_
    rw [setBuildWord_eq, mergeLanes_toNat, buildWord_toNat]
    clear h
    fin_cases k <;> rfl

end Sys2Proof.Machine
end

end

section

/-! SUPPORT. Retry, timeouts and aborts: the laws of the operations they use, and the proofs of their statements. As above, the proofs
are elaborated one after another. -/

set_option Elab.async false

section
/-! The course of a slot: where the peer-state test places it, and the close of an exchange that nothing marks. -/

namespace Sys2Proof.Machine

variable {s : State} {i : Tag}

/-! ### Placement -/

theorem placement_quiet_ready {urgency l : Urgency} (h : l < urgency) : placement urgency (.quiet l) = .ready :=
  if_neg (not_le.2 h)

theorem placement_quiet_parked {urgency l : Urgency} (h : urgency ≤ l) : placement urgency (.quiet l) = .parked :=
  if_pos h

theorem State.placeSlot_of_present (present : (s.peer (s.slot i).descriptor.destination).state = .present) :
    s.placeSlot i = s.setSlotState i .ready := by
  rw [State.placeSlot, State.placementOf, present]
  rfl

/-- At a QUIET peer the urgency decides between PARKED and READY (R10). -/
theorem State.placeSlot_of_quiet {l : Urgency}
    (quiet : (s.peer (s.slot i).descriptor.destination).state = .quiet l) :
    s.placeSlot i = s.setSlotState i (if (s.slot i).descriptor.urgency ≤ l then .parked else .ready) := by
  rw [State.placeSlot, State.placementOf, quiet]
  by_cases level : (s.slot i).descriptor.urgency ≤ l
  · rw [placement_quiet_parked level, if_pos level]
  · rw [placement_quiet_ready (not_le.1 level), if_neg level]

/-- At a peer that takes no request the test ends the slot with the status of the record (R10). -/
theorem State.placeSlot_of_gone {st : Status}
    (gone : (s.peer (s.slot i).descriptor.destination).state = .absent ∧ st = .peerAbsent ∨
      (s.peer (s.slot i).descriptor.destination).state = .silent ∧ st = .peerSilent ∨
      (s.peer (s.slot i).descriptor.destination).state = .mismatched ∧ st = .peerMismatch) :
    s.placeSlot i = s.endSlot i st := by
  rcases gone with ⟨peer, rfl⟩ | ⟨peer, rfl⟩ | ⟨peer, rfl⟩ <;>
    rw [State.placeSlot, State.placementOf, peer] <;> rfl

/-! ### The back-off timer -/

theorem execBackoffExpiry_of_backoff {n : Nat} (backoff : (s.slot i).state = .backoff n) :
    execBackoffExpiry i s = .next (s.placeSlot i) := by
  rw [execBackoffExpiry, backoff]

/-- Settles O28: the expiry is a placement by the destination's record. -/
theorem backoffExpiryPlacesTheSlot : Obligations.BackoffExpiryPlacesTheSlot := by
  intro s i n backoff record
  have placed : exec (.backoffExpiry i) s = .next (s.placeSlot i) := execBackoffExpiry_of_backoff backoff
  refine ⟨fun present => ?_, fun l quiet => ?_, fun st gone => ?_⟩
  · rw [placed, State.placeSlot_of_present present]
    rfl
  · rw [placed, State.placeSlot_of_quiet quiet]
    rfl
  · rw [placed, State.placeSlot_of_gone gone]

/-! ### The answer timer -/

/-- The slot that alone is AWAITING is the one the timer is of. -/
theorem State.awaitingSlot_eq_some_of_only {n : Nat} (awaiting : (s.slot i).state = .awaiting n)
    (only : ∀ j, j ≠ i → (s.slot j).state.isAwaiting = false) : s.awaitingSlot = some i :=
  lowestOf_eq_some_of_least (by rw [awaiting]; rfl) fun j hj => only j (ne_of_lt hj)

/-- The timer's expiry closes the exchange with no answer, but while a reply is on the line (R45, R46). -/
theorem execAnswerTimerExpiry_of_awaiting (awaiting : s.awaitingSlot = some i) (noReply : s.replyOnLine = false) :
    execAnswerTimerExpiry s = .next (s.noAnswer i) := by
  simp only [execAnswerTimerExpiry, awaiting, noReply]
  rfl

/-- With bytes still to move and neither mark nor deferred ending, the close takes the course of the outcome (R36). -/
theorem State.closeExchange_of_unmarked (c : Course) (incomplete : (s.slot i).bytesDone ≠ (s.slot i).descriptor.length)
    (unmarked : (s.slot i).abortMark = false) (undeferred : (s.slot i).deferred = none) :
    s.closeExchange i c = s.takeCourse i c := by
  rw [State.closeExchange, if_neg incomplete, if_neg (by simp [unmarked]), undeferred]

/-- Of two changes of one slot the later stays. -/
theorem State.setSlot_setSlotState (x : Slot) (st : SlotState) :
    (s.setSlot i x).setSlotState i st = s.setSlot i { x with state := st } := by
  rw [State.setSlotState, State.slot_setSlot_self]
  simp only [State.setSlot, State.onRequester, Vector.set_set]

/-- The slot once its exchange has gone without an answer, before the close (R46, R49). -/
def Slot.unanswered (x : Slot) (limit : Nat) : Slot :=
  { x with
    noAnswerCount := x.noAnswerCount + 1, firstFlag := false
    lastCause := if limit < x.noAnswerCount + 1 then some .noAnswerLimit else x.lastCause }

theorem State.noAnswer_eq (s : State) (i : Tag) :
    s.noAnswer i =
      ((s.setSlot i ((s.slot i).unanswered s.nl)).closeExchange i
        (if s.nl < (s.slot i).noAnswerCount + 1 then .finish .peerNoAnswer else .wait s.bb)).checkLeaving := by
  simp only [State.noAnswer, Slot.unanswered, decide_eq_true_eq]

/-- Settles O27: the expiry is the close with no answer, which takes its course unless a mark or a deferred ending goes before. -/
theorem answerTimerExpiryBacksOffOrEnds : Obligations.AnswerTimerExpiryBacksOffOrEnds := by
  intro s i n awaiting only noReply x put
  have expiry : exec .answerTimerExpiry s = .next (s.noAnswer i) := by
    refine execAnswerTimerExpiry_of_awaiting (State.awaitingSlot_eq_some_of_only awaiting only) ?_
    simpa [State.replyOnLine, imp_iff_not_or] using noReply
  rw [expiry, State.noAnswer_eq]
  refine ⟨rfl, fun incomplete unmarked undeferred => ?_⟩
  have course (c : Course) : (s.setSlot i (x.unanswered s.nl)).closeExchange i c =
      (s.setSlot i (x.unanswered s.nl)).takeCourse i c := by
    apply State.closeExchange_of_unmarked <;> rw [State.slot_setSlot_self] <;> assumption
  refine ⟨fun within => ?_, fun passed noneBehind => ?_⟩
  · have within : ¬s.nl < (s.slot i).noAnswerCount + 1 := Nat.not_lt.2 within
    rw [course, if_neg within, State.takeCourse, State.setSlot_setSlotState, Slot.unanswered, if_neg within]
    rfl
  · have alone : (s.setSlot i (x.unanswered s.nl)).endSlot i .peerNoAnswer =
        (s.setSlot i (x.unanswered s.nl)).finishSlot i .peerNoAnswer := by
      refine State.endSlot_eq_finishSlot _ (.inr fun k hk behind => ?_)
      rw [State.slot_setSlot, if_neg hk] at behind ⊢
      rw [State.slot_setSlot_self]
      exact noneBehind k behind
    rw [course, if_pos passed, State.takeCourse, alone, State.finishSlot, State.setSlot_setSlotState, Slot.unanswered,
      if_pos passed]
    rfl

end Sys2Proof.Machine
end

section
/-! The station's own commands: QUIET, WAKE and LEAVE with the beacons they queue. -/

namespace Sys2Proof.Machine

variable {s : State}

/-! ### Queuing a beacon -/

theorem State.queueBeacon_eq (s : State) (p : PendingBeacon) :
    s.queueBeacon p =
      match s.link.tx, s.link.begun with
      | some (.beacon _), false =>
        { s with link := { s.link with
            tx := some (.beacon { state := p.state, wakeLevel := p.wakeLevel, sequence := s.controller.beaconSequence,
                                  digest := s.link.ownDigest.getD 0 }) } }
      | _, _ => { s with controller := { s.controller with pendingBeacon := some p } } := by
  unfold State.queueBeacon
  cases s.link.begun <;> rcases s.link.tx with _ | ⟨_, _⟩ | _ <;> rfl

/-- The command result has no part in the queuing of a beacon. -/
theorem State.queueBeacon_withResult (s : State) (p : PendingBeacon) (r : CommandResult) :
    (s.queueBeacon p).withResult r = (s.withResult r).queueBeacon p := by
  unfold State.queueBeacon
  simp only [State.withResult_frame]
  split <;> rfl

/-! ### QUIET and WAKE -/

theorem urgencyByte_toNat (l : Urgency) : (BitVec.ofNat 8 l.val).toNat = l.val := by
  rw [BitVec.toNat_ofNat]
  omega

theorem execQuiet_of_active (released : s.hostPort.resetAsserted = false) (active : s.controller.station = .active)
    (l : Urgency) :
    execQuiet (BitVec.ofNat 8 l.val) s =
      .next (((s.quietSlots.enter (.quiet l)).withResult .accepted).queueBeacon { state := .quiet, wakeLevel := l }) := by
  rw [execQuiet, State.hostTakes_of_released released, active, urgencyByte_toNat]
  simp only [Fin.ofNat_val_eq_self, if_pos (Nat.le_of_lt_succ l.isLt), State.queueBeacon_withResult]

theorem execQuiet_of_quiet {k : Urgency} (released : s.hostPort.resetAsserted = false)
    (quiet : s.controller.station = .quiet k) (l : Urgency) :
    execQuiet (BitVec.ofNat 8 l.val) s =
      .next (((s.enter (.quiet l)).withResult .accepted).queueBeacon { state := .quiet, wakeLevel := l }) := by
  rw [execQuiet, State.hostTakes_of_released released, quiet, urgencyByte_toNat]
  simp only [Fin.ofNat_val_eq_self, if_pos (Nat.le_of_lt_succ l.isLt), State.queueBeacon_withResult]

theorem execQuiet_of_invalid {a : Byte} (released : s.hostPort.resetAsserted = false)
    (onSpan : s.controller.station = .active ∨ ∃ k, s.controller.station = .quiet k) (high : 7 < a.toNat) :
    execQuiet a s = .next (s.withResult .refusedInvalid) := by
  rw [execQuiet, State.hostTakes_of_released released]
  rcases onSpan with active | ⟨k, quiet⟩
  · simp only [active, if_neg (Nat.not_le.2 high)]
  · simp only [quiet, if_neg (Nat.not_le.2 high)]

theorem execQuiet_of_elsewhere (a : Byte) (released : s.hostPort.resetAsserted = false)
    (notActive : s.controller.station ≠ .active) (notQuiet : ∀ k, s.controller.station ≠ .quiet k) :
    execQuiet a s = .next (s.withResult .refusedState) := by
  rw [execQuiet, State.hostTakes_of_released released]
  cases station : s.controller.station with
  | active => exact absurd station notActive
  | quiet k => exact absurd station (notQuiet k)
  | _ => rfl

theorem execWake_of_quiet {k : Urgency} (released : s.hostPort.resetAsserted = false)
    (quiet : s.controller.station = .quiet k) :
    execWake s =
      .next (((s.enter .active).withResult .accepted).queueBeacon { state := .active, wakeLevel := 0 }) := by
  rw [execWake, State.hostTakes_of_released released, quiet]
  simp only [State.queueBeacon_withResult]

theorem execWake_of_elsewhere (released : s.hostPort.resetAsserted = false)
    (notQuiet : ∀ k, s.controller.station ≠ .quiet k) : execWake s = .next (s.withResult .refusedState) := by
  rw [execWake, State.hostTakes_of_released released]
  cases station : s.controller.station with
  | quiet k => exact absurd station (notQuiet k)
  | _ => rfl

/-- Settles O11: the effect by the station state, and then the queuing of the beacon. -/
theorem quietAndWakeQueueTheirBeacons : Obligations.QuietAndWakeQueueTheirBeacons := by
  refine ⟨State.queueBeacon_eq, fun s released => ⟨fun l active => ?_, fun l k quiet => ?_, fun a => ?_, fun a => ?_,
    fun k quiet => ?_, ?_⟩⟩
  · refine (execQuiet_of_active released active l).trans ?_
    rw [State.quietSlots, State.withdrawSegment_eq]
    rfl
  · exact execQuiet_of_quiet released quiet l
  · exact execQuiet_of_invalid released
  · exact execQuiet_of_elsewhere a released
  · exact execWake_of_quiet released quiet
  · exact execWake_of_elsewhere released

/-! ### The leaving sequence -/

theorem ContextState.isQueued_eq_false_iff {x : ContextState} : x.isQueued = false ↔ x ≠ .queued := by
  cases x <;> simp [ContextState.isQueued]

theorem ContextState.isCycling_eq_false_iff {x : ContextState} : x.isCycling = false ↔ x ≠ .cycling := by
  cases x <;> simp [ContextState.isCycling]

/-- The end condition of LEAVING, slot by slot and entry by entry (R172). -/
theorem State.leavingEnds_iff :
    s.leavingEnds = true ↔ s.controller.station = .leaving ∧
      (∀ i, (s.slot i).state.isAwaiting = false ∧ (s.slot i).state.isContending = false) ∧
      ∀ j, (s.context j).state ≠ .queued ∧ (s.context j).state ≠ .cycling := by
  simp [State.leavingEnds, and_assoc, ContextState.isQueued_eq_false_iff, ContextState.isCycling_eq_false_iff]

/-- No LEAVING beacon is queued when neither the pending beacon nor the transmit register holds one. -/
theorem State.leavingBeaconQueued_eq_false_iff :
    s.leavingBeaconQueued = false ↔
      (∀ p, s.controller.pendingBeacon = some p → p.state ≠ .leaving) ∧
        ∀ b, s.link.tx = some (.beacon b) → b.state ≠ .leaving := by
  unfold State.leavingBeaconQueued
  cases s.controller.pendingBeacon <;> rcases s.link.tx with _ | ⟨_, _⟩ | _ <;> simp

/-- The LEAVING beacon is queued when the end condition holds and it is not queued yet (R172). -/
theorem State.checkLeaving_of_due (ends : s.leavingEnds = true) (unqueued : s.leavingBeaconQueued = false) :
    s.checkLeaving = s.queueBeacon { state := .leaving, wakeLevel := 0 } := by
  rw [State.checkLeaving, ends, unqueued]
  rfl

theorem State.checkLeaving_of_not_due (h : ¬(s.leavingEnds = true ∧ s.leavingBeaconQueued = false)) :
    s.checkLeaving = s :=
  if_neg (by simpa using h)

/-- The command result has no part in the check of the end condition. -/
theorem State.checkLeaving_withResult (s : State) (r : CommandResult) :
    s.checkLeaving.withResult r = (s.withResult r).checkLeaving := by
  by_cases due : s.leavingEnds = true ∧ s.leavingBeaconQueued = false
  · obtain ⟨ends, unqueued⟩ := due
    rw [State.checkLeaving_of_due ends unqueued, State.queueBeacon_withResult,
      State.checkLeaving_of_due (s := s.withResult r) ends unqueued]
  · rw [State.checkLeaving_of_not_due due, State.checkLeaving_of_not_due (s := s.withResult r) due]

theorem execLeave_of_onSpan (released : s.hostPort.resetAsserted = false)
    (onSpan : s.controller.station = .active ∨ ∃ l, s.controller.station = .quiet l) :
    execLeave s = .next (s.startLeaving.withResult .accepted) := by
  rw [execLeave, State.hostTakes_of_released released]
  rcases onSpan with active | ⟨l, quiet⟩
  · rw [active]
  · rw [quiet]

/-- The entry to LEAVING, before the end condition is looked at, as one update of the state (R61, R171). -/
theorem State.startLeaving_eq (s : State) :
    s.startLeaving =
      State.checkLeaving
        { s with
          requester := { s.requester with
            doneNext := s.requester.doneNext + (List.finRange 8).countP s.waiting
            slots := Vector.ofFn fun i =>
              if s.waiting i then
                { s.slot i with
                  state := .done .stationLeaving
                    (s.requester.doneNext + (List.finRange 8).countP fun j => s.waiting j && s.dispatchedBefore j i) }
              else if s.inFlight i then
                { s.slot i with deferred := some ((s.slot i).deferred.getD .stationLeaving) }
              else s.slot i }
          link := if s.link.begun then s.link else { s.link with tx := none, begun := false, contending := false }
          controller := { s.controller with station := .leaving, pendingBeacon := none } } := by
  rw [State.startLeaving, s.endSlots_markSlots s.waiting s.inFlight .stationLeaving _ fun i => State.inFlight_of_waiting]
  by_cases begun : s.link.begun = true
  · simp only [begun, if_true]
    rfl
  · simp only [begun]
    rfl

/-- Settles O10: the slots that wait and those in flight are apart, and the end condition is looked at last. -/
theorem leaveStartsTheLeavingSequence : Obligations.LeaveStartsTheLeavingSequence := by
  constructor
  · intro t ends
    have ends_iff : ends ↔ t.leavingEnds = true ∧ t.leavingBeaconQueued = false := by
      simp only [ends, State.leavingEnds_iff, State.leavingBeaconQueued_eq_false_iff, and_assoc]
    rw [ends_iff]
    exact ⟨fun ⟨ends, unqueued⟩ => State.checkLeaving_of_due ends unqueued, State.checkLeaving_of_not_due⟩
  · intro s released onSpan flying waiting before
    have waiting_eq : s.waiting = waiting := funext s.waiting_eq
    refine (execLeave_of_onSpan released onSpan).trans ?_
    rw [State.startLeaving_eq, State.checkLeaving_withResult, waiting_eq]
    rfl

end Sys2Proof.Machine
end

section
/-! Entry to ISOLATED on a report of the link unit. -/

namespace Sys2Proof.Machine

variable {s : State}

/-- On entry to ISOLATED a CYCLING context becomes an orphan unless it is one, and every other one is freed (R92, R94). -/
theorem Context.isolate_eq (c : Context) :
    c.isolate =
      if c.state = .cycling then
        { c with orphan := if c.orphan = .clear then .isolated else c.orphan, answerOwed := false }
      else { c with state := .free, orphan := .clear, answerOwed := false } := by
  unfold Context.isolate
  cases c.state <;> rfl

/-- Whether an answer is owed is of no matter to the isolation. -/
theorem Context.isolate_of_answered (c : Context) : ({ c with answerOwed := false } : Context).isolate = c.isolate := by
  rw [Context.isolate_eq, Context.isolate_eq]

/-- The slots that an entry to ISOLATED ends: those that hold a transaction (R62). -/
def State.occupied (s : State) (i : Tag) : Bool := !(s.slot i).state.isFree && !(s.slot i).state.isDone

/-- The entry to ISOLATED as one update of the state (R62, R94, R144, R157, R173). -/
theorem State.isolate_eq (s : State) (report : NoticeKind) :
    s.isolate report =
      { s with
        requester := (s.endSlots s.occupied .stationIsolated).requester
        responder := { s.responder with contexts := Vector.ofFn fun j => (s.context j).isolate, holdTimer := none }
        link := s.linkOff.link
        peers := clearedPeers s.own
        controller := { s.controller with
          station := .isolated, listenTimer := none, beaconTimer := none, pendingBeacon := none }
        notices := (s.post { kind := report, station := s.own, detail := .number 0 }).notices } := rfl

/-- What the end of a frame heard makes of the medium and of the reservation is lost in the entry to ISOLATED. -/
theorem State.isolate_endHeard (s : State) (reserves : Bool) (report : NoticeKind) :
    (s.endHeard reserves).isolate report = s.isolate report := by
  unfold State.endHeard
  cases s.link.layout with
  | contended => cases reserves <;> rfl
  | lateReply => rfl
  | replySlot =>
    rw [State.isolate_eq, State.isolate_eq]
    simp only [State.context_endReservation, Context.isolate_of_answered]
    rfl

/-- The station is ISOLATED then, so that the end condition of LEAVING is not looked at. -/
theorem State.checkLeaving_isolate (s : State) (report : NoticeKind) :
    (s.isolate report).checkLeaving = s.isolate report :=
  State.checkLeaving_of_not_leaving (by simp [State.isolate_eq])

/-! ### The reports -/

theorem State.report_of_on (on : s.receiverOn = true) (kind : NoticeKind) : s.report kind = s.isolate kind := if_pos on

theorem State.report_of_off (off : s.controller.station = .offline ∨ s.controller.station = .isolated)
    (kind : NoticeKind) : s.report kind = s := by
  refine if_neg ?_
  rcases off with station | station <;> simp [State.receiverOn, station]

theorem State.endHeard_controller (s : State) (reserves : Bool) : (s.endHeard reserves).controller = s.controller := by
  unfold State.endHeard
  cases s.link.layout with
  | contended => cases reserves <;> rfl
  | replySlot | lateReply => rfl

/-- A frame of the own number isolates the station, wherever it is found on the line (R143). -/
theorem State.receive_of_duplicate {h : Heard} (on : s.receiverOn = true)
    (duplicate : (∃ f : Frame, readFrame s.link.layout h = .good f ∧ f.source = s.own) ∨
      readFrame s.link.layout h = .misplaced s.own) : s.receive h = s.isolate .duplicateStation := by
  have isolates (reserves : Bool) : (s.endHeard reserves).report .duplicateStation = s.isolate .duplicateStation := by
    have on : (s.endHeard reserves).receiverOn = true := by
      rw [State.receiverOn, State.endHeard_controller]
      exact on
    rw [State.report_of_on on, State.isolate_endHeard]
  rcases duplicate with ⟨f, good, own⟩ | misplaced
  · simp only [State.receive, good, if_pos own, isolates]
  · simp only [State.receive, misplaced, if_true, isolates]

theorem execLinkFault_of_few (few : s.link.transmitFaults < 4) : execLinkFault s = .next s :=
  congrArg Host.Outcome.next (if_neg (Nat.not_le.2 few))

theorem execLinkFault_of_four (four : 4 ≤ s.link.transmitFaults) : execLinkFault s = .next (s.report .linkFault) :=
  congrArg Host.Outcome.next (if_pos four)

/-- A frame is heard in RECEIVING, and in a contention this station does not drive in (log entry 9). -/
theorem State.hearing_iff :
    s.hearing = true ↔ s.link.medium = .receiving ∨ s.link.medium = .contention ∧ s.link.contending = false := by
  unfold State.hearing
  cases s.link.medium <;> simp

theorem execFrameReceived_of_duplicate {h : Heard} (on : s.receiverOn = true) (nothing : s.nothingDue)
    (hearing : s.hearing = true) (head : s.link.followTail = false)
    (duplicate : (∃ f : Frame, readFrame s.link.layout h = .good f ∧ f.source = s.own) ∨
      readFrame s.link.layout h = .misplaced s.own) :
    execFrameReceived h s = .next (s.isolate .duplicateStation) := by
  simp only [execFrameReceived, State.takeDue_of_nothingDue nothing, if_pos hearing, head,
    State.receive_of_duplicate on duplicate, State.checkLeaving_isolate]
  rfl

/-- Settles O38: both reports lead to the one entry to ISOLATED. -/
theorem reportsIsolateTheStation : Obligations.ReportsIsolateTheStation := by
  intro s
  refine ⟨execLinkFault_of_few, fun off => ?_, ?_⟩
  · by_cases few : s.link.transmitFaults < 4
    · exact execLinkFault_of_few few
    · exact (execLinkFault_of_four (Nat.not_lt.1 few)).trans (by rw [State.report_of_off off])
  · intro c report on reported ended before
    have isolated : exec c s = .next (s.isolate report) := by
      rcases reported with ⟨rfl, four, rfl⟩ | ⟨h, rfl, nothing, hearing, head, duplicate, rfl⟩
      · exact (execLinkFault_of_four four).trans (by rw [State.report_of_on on])
      · exact execFrameReceived_of_duplicate on nothing (State.hearing_iff.2 hearing) head duplicate
    rw [isolated, State.isolate_eq]
    simp only [Context.isolate_eq]
    rfl

end Sys2Proof.Machine
end

end

section

/-! SUPPORT. Windows, configuration and the target bus: the laws of the operations they use, and the proofs of their statements. As
above, the proofs are elaborated one after another. -/

set_option Elab.async false

section
/-! The window table: what makes an entry well formed, what it covers and admits, and admission as the choice of an entry. -/

namespace Sys2Proof.Machine

variable {s : State}

/-! ### One entry -/

/-- The widths are the powers of two that a code other than 0 names, and code 0 is taken as width 1 (log entry 20). -/
theorem widthOf_getD_one (code : BitVec 2) : (widthOf code).getD 1 = 2 ^ (code.toNat - 1) := by
  revert code
  decide

theorem widthOf_isSome_iff {code : BitVec 2} : (widthOf code).isSome = true ↔ code ≠ 0 := by
  revert code
  decide

/-- The conditions of R99 on an entry. -/
theorem WindowEntry.wellFormed_iff {e : WindowEntry} :
    e.wellFormed = true ↔
      8 ≤ e.sizeExponent.toNat ∧ e.sizeExponent.toNat ≤ 24 ∧ e.spanBase.toNat % 2 ^ e.sizeExponent.toNat = 0 ∧
        e.localBase.toNat + 2 ^ e.sizeExponent.toNat ≤ 2 ^ 24 ∧ e.access ≠ 0 ∧ e.widthCap ≠ 0 := by
  simp only [WindowEntry.wellFormed, Bool.and_eq_true, decide_eq_true_eq, beq_iff_eq, bne_iff_ne, widthOf_isSome_iff,
    and_assoc]
  rfl

theorem WindowEntry.covers_iff {e : WindowEntry} {a : BitVec 32} :
    e.covers a = true ↔
      e.valid = true ∧ e.spanBase.toNat ≤ a.toNat ∧ a.toNat < e.spanBase.toNat + 2 ^ e.sizeExponent.toNat := by
  simp only [WindowEntry.covers, Bool.and_eq_true, decide_eq_true_eq, and_assoc]
  rfl

/-- Bit 0 of the access admits a READ and bit 1 a WRITE (R103). -/
theorem WindowEntry.admitsOp_eq (e : WindowEntry) (op : Op) :
    e.admitsOp op = e.access.getLsbD (if op = .read then 0 else 1) := by
  cases op <;> exact bitFlag_eq_getLsbD _ _

theorem WindowEntry.admitsStation_eq (e : WindowEntry) (n : StationNo) :
    e.admitsStation n = e.requesterMask.getLsbD n.val := bitFlag_eq_getLsbD _ _

/-! ### Admission -/

theorem State.admission_of_none {g : Segment} (uncovered : ∀ n : EntryNo, s.windows[n].covers g.address = false) :
    s.admission g = .refused .noWindow := by
  rw [State.admission, lowestOf_eq_none.2 uncovered]

/-- The lowest covering entry decides, by its access first and its requester mask next (R102, R103). -/
theorem State.admission_of_lowest {g : Segment} {n : EntryNo} (covers : s.windows[n].covers g.address = true)
    (lowest : ∀ m, m < n → s.windows[m].covers g.address = false) :
    s.admission g =
      if s.windows[n].admitsOp g.op = true then
        if s.windows[n].admitsStation g.source = true then .admitted n (s.windows[n].lengthInside g)
        else .refused .denied
      else .refused .access := by
  rw [State.admission, lowestOf_eq_some_of_least (allowed := fun n => s.windows[n].covers g.address) covers lowest]
  dsimp only
  cases s.windows[n].admitsOp g.op <;> cases s.windows[n].admitsStation g.source <;> rfl

/-- Settles O46: the entry found is the lowest that covers the address, and the checks follow one another. -/
theorem admissionFollowsTheWindowTable : Obligations.AdmissionFollowsTheWindowTable := by
  intro s g covers
  have uncovered {n : EntryNo} (h : ¬covers n) : s.windows[n].covers g.address = false :=
    Bool.eq_false_iff.2 (mt WindowEntry.covers_iff.1 h)
  refine ⟨fun none => State.admission_of_none fun n => uncovered (none n), fun n covered lowest => ?_⟩
  have admission := State.admission_of_lowest (WindowEntry.covers_iff.2 covered) fun m hm => uncovered (lowest m hm)
  rw [WindowEntry.admitsOp_eq, WindowEntry.admitsStation_eq] at admission
  refine ⟨fun op => ?_, fun op station => ?_, fun op station => ?_⟩
  · rw [admission, if_neg op]
  · rw [admission, if_pos op, if_neg station]
  · rw [admission, if_pos op, if_pos station]
    rfl

end Sys2Proof.Machine
end

section
/-! JOIN: the fault its checks find, and the changes it makes when they find none. -/

namespace Sys2Proof.Machine

variable {s : State}

/-! ### The checks -/

/-- The least and the greatest value of each parameter, in the order of R162 (R161). -/
def parameterRanges : Vector (Nat × Nat) 10 :=
  #v[(4, 255), (1, 255), (1, 255), (1, 255), (0, 15), (1, 15), (1, 255), (1, 15), (8, 255), (8, 255)]

theorem parameterRange_eq (p : Fin 10) : parameterRange p = parameterRanges[p] := by
  revert p
  decide

theorem State.parameterInRange_iff {p : Fin 10} :
    s.parameterInRange p = true ↔
      parameterRanges[p].1 ≤ s.controller.parameters[p].toNat ∧
        s.controller.parameters[p].toNat ≤ parameterRanges[p].2 := by
  simp only [State.parameterInRange, State.parameter, parameterRange_eq, Bool.and_eq_true, decide_eq_true_eq]

/-- The first parameter out of range is the fault, whatever the windows are (R162). -/
theorem State.joinFault_of_parameter {p : Fin 10} (out : s.parameterInRange p = false)
    (first : ∀ q, q < p → s.parameterInRange q = true) : s.joinFault = .parameter p := by
  have found : ((List.finRange 10).find? fun p => !s.parameterInRange p) = some p := by
    rw [← Fin.find?_eq_find?_finRange, Fin.find?_eq_some_iff]
    exact ⟨by simp [out], fun q hq => by simp [first q hq]⟩
  rw [State.joinFault, found]

/-- With every parameter in range the windows alone are looked at (R100). -/
theorem State.joinFault_of_inRange (inRange : ∀ p, s.parameterInRange p = true) :
    s.joinFault =
      ((lowestOf fun n => s.windows[n].valid && !s.windows[n].wellFormed).elim .none .windowEntry) := by
  have found : ((List.finRange 10).find? fun p => !s.parameterInRange p) = none := by
    simp [List.find?_eq_none, inRange]
  rw [State.joinFault, found]
  cases lowestOf fun n => s.windows[n].valid && !s.windows[n].wellFormed <;> rfl

theorem State.joinFault_of_window (inRange : ∀ p, s.parameterInRange p = true) {n : EntryNo}
    (valid : s.windows[n].valid = true) (bad : s.windows[n].wellFormed = false)
    (lowest : ∀ m, m < n → s.windows[m].valid = true → s.windows[m].wellFormed = true) :
    s.joinFault = .windowEntry n := by
  rw [State.joinFault_of_inRange inRange, lowestOf_eq_some_of_least (i := n) (by rw [valid, bad]; rfl)]
  · rfl
  · intro m hm
    cases h : s.windows[m].valid with
    | false => rfl
    | true => rw [lowest m hm h]; rfl

theorem State.joinFault_eq_none (inRange : ∀ p, s.parameterInRange p = true)
    (wellFormed : ∀ n : EntryNo, s.windows[n].valid = true → s.windows[n].wellFormed = true) :
    s.joinFault = .none := by
  rw [State.joinFault_of_inRange inRange, lowestOf_eq_none.2]
  · rfl
  · intro n
    cases h : s.windows[n].valid with
    | false => rfl
    | true => rw [wellFormed n h]; rfl

/-! ### The command -/

theorem execJoin_outside (released : s.hostPort.resetAsserted = false) (outside : s.controller.station ≠ .offline) :
    execJoin s = .next (s.withResult .refusedState) := by
  rw [execJoin, State.hostTakes_of_released released, if_neg outside]

theorem execJoin_of_fault (released : s.hostPort.resetAsserted = false) (offline : s.controller.station = .offline)
    (fault : s.joinFault ≠ .none) :
    execJoin s = .next
      ((s.onController fun c => { c with faultDetail := s.joinFault }).withResult .refusedInvalid) := by
  rw [execJoin, State.hostTakes_of_released released, if_pos offline, if_neg fault]

theorem execJoin_of_no_fault (released : s.hostPort.resetAsserted = false) (offline : s.controller.station = .offline)
    (fault : s.joinFault = .none) : execJoin s = .next (s.joinSpan.withResult .accepted) := by
  rw [execJoin, State.hostTakes_of_released released, if_pos offline, if_pos fault]

/-- Settles O7: with no fault to find, JOIN makes the changes of R163. -/
theorem joinLocksAndListens : Obligations.JoinLocksAndListens := by
  intro s released offline inRange wellFormed
  have fault : s.joinFault = .none :=
    State.joinFault_eq_none (fun p => State.parameterInRange_iff.2 (inRange p))
      fun n valid => WindowEntry.wellFormed_iff.2 (wellFormed n valid)
  exact execJoin_of_no_fault released offline fault

/-- Settles O8: the fault found is the first in the order of R162 and R100. -/
theorem joinNamesTheFirstFault : Obligations.JoinNamesTheFirstFault := by
  intro s released inRange wellFormed
  have range (p) : inRange p ↔ s.parameterInRange p = true := State.parameterInRange_iff.symm
  have formed (n) : wellFormed n ↔ s.windows[n].wellFormed = true := WindowEntry.wellFormed_iff.symm
  refine ⟨execJoin_outside released, fun p offline out first => ?_, fun n offline allIn valid bad lowest => ?_⟩
  · have fault : s.joinFault = .parameter p :=
      State.joinFault_of_parameter (Bool.eq_false_iff.2 (mt (range p).2 out)) fun q hq => (range q).1 (first q hq)
    refine (execJoin_of_fault released offline (by simp [fault])).trans ?_
    rw [fault]
    rfl
  · have fault : s.joinFault = .windowEntry n :=
      State.joinFault_of_window (fun p => (range p).1 (allIn p)) valid (Bool.eq_false_iff.2 (mt (formed n).2 bad))
        fun m hm hv => (formed m).1 (lowest m hm hv)
    refine (execJoin_of_fault released offline (by simp [fault])).trans ?_
    rw [fault]
    rfl

end Sys2Proof.Machine
end

section
/-! Configuration writes: the words of a window entry, the register a configuration address names, and what a write leaves in each
configuration register. -/

namespace Sys2Proof.Machine

variable {s : State}

/-! ### The words of a window entry -/

/-- The bits 12.3 lists for each of the seven words of a window entry. -/
def windowMask : Vector Word 7 := #v[0x0FFF, 0xFFFF, 0xFFFF, 0xFFFF, 0x00FF, 0xFFFF, 0xFFFF]

/-- A word cut to its low `n` bits is its remainder. -/
theorem and_lowBits_toNat {n : Nat} (h : n ≤ 16) (v : Word) :
    (v &&& BitVec.ofNat 16 (2 ^ n - 1)).toNat = v.toNat % 2 ^ n := by
  rw [← setWidth_setWidth_eq_and h, BitVec.toNat_setWidth_of_le h, BitVec.toNat_setWidth]

/-- A window word that has been written reads as the word, cut to its listed bits (R196). -/
theorem windowWord_setWindowWord_self (e : WindowEntry) (k : Fin 7) (v : Word) :
    windowWord (setWindowWord e k v) k = v &&& windowMask[k] := by
  have whole : v &&& 0xFFFF = v := BitVec.and_allOnes
  have bound := v.isLt
  match k with
  | 0 =>
    apply BitVec.eq_of_toNat_eq
    refine Eq.trans ?_ (and_lowBits_toNat (n := 12) (by decide) v).symm
    simp only [windowWord, setWindowWord, flagBit_bitFlag, bitField, BitVec.toNat_ofNat]
    omega
  | 1 | 5 => exact (lowWord_longOf v _).trans whole.symm
  | 2 | 6 => exact (highWord_longOf _ v).trans whole.symm
  | 3 =>
    refine Eq.trans (BitVec.eq_of_toNat_eq ?_) whole.symm
    simp only [windowWord, setWindowWord, BitVec.toNat_ofNat]
    omega
  | 4 =>
    apply BitVec.eq_of_toNat_eq
    refine Eq.trans ?_ (and_lowBits_toNat (n := 8) (by decide) v).symm
    simp only [windowWord, setWindowWord, BitVec.toNat_ofNat]
    omega

/-- A write to one word of an entry leaves the other words. -/
theorem windowWord_setWindowWord_of_ne (e : WindowEntry) {k j : Fin 7} (h : j ≠ k) (v : Word) :
    windowWord (setWindowWord e k v) j = windowWord e j := by
  have bound := e.localBase.isLt
  match k with
  | 0 =>
    fin_cases j
    any_goals rfl
    exact absurd rfl h
  | 1 | 5 =>
    fin_cases j
    any_goals rfl
    · exact absurd rfl h
    · exact highWord_longOf v _
  | 2 | 6 =>
    fin_cases j
    any_goals rfl
    · exact lowWord_longOf _ v
    · exact absurd rfl h
  | 3 =>
    fin_cases j
    any_goals rfl
    · exact absurd rfl h
    · apply BitVec.eq_of_toNat_eq
      simp only [windowWord, setWindowWord, BitVec.toNat_ofNat]
      omega
  | 4 =>
    fin_cases j
    any_goals rfl
    · apply BitVec.eq_of_toNat_eq
      simp only [windowWord, setWindowWord, BitVec.toNat_ofNat]
      omega
    · exact absurd rfl h

/-- A window entry after a write of a word, given as a number: the fields are the bits 12.3 lists for the seven words. -/
def enteredFrom (e : WindowEntry) (m : Nat) : Vector WindowEntry 7 :=
  let base := e.spanBase.toNat
  let mask := e.requesterMask.toNat
  let target := e.localBase.toNat
  #v[{ e with
        valid := m % 2 == 1, sizeExponent := BitVec.ofNat 5 (m / 2), access := BitVec.ofNat 2 (m / 64)
        widthCap := BitVec.ofNat 2 (m / 256), burst := m / 1024 % 2 == 1, prefetchable := m / 2048 % 2 == 1 },
    { e with spanBase := BitVec.ofNat 32 (m + 65536 * (base / 65536)) },
    { e with spanBase := BitVec.ofNat 32 (base % 65536 + 65536 * m) },
    { e with localBase := BitVec.ofNat 24 (m + 65536 * (target / 65536)) },
    { e with localBase := BitVec.ofNat 24 (target % 65536 + 65536 * m) },
    { e with requesterMask := BitVec.ofNat 32 (m + 65536 * (mask / 65536)) },
    { e with requesterMask := BitVec.ofNat 32 (mask % 65536 + 65536 * m) }]

/-- A 32-bit field with its low word replaced. -/
theorem longOf_highWord (v : Word) (x : BitVec 32) :
    longOf v (highWord x) = BitVec.ofNat 32 (v.toNat + 65536 * (x.toNat / 65536)) := by rw [longOf, highWord_toNat]

/-- A 32-bit field with its high word replaced. -/
theorem longOf_lowWord (x : BitVec 32) (v : Word) :
    longOf (lowWord x) v = BitVec.ofNat 32 (x.toNat % 65536 + 65536 * v.toNat) := by rw [longOf, lowWord_toNat]

/-- A field of `n` bits takes the low ones of a number. -/
theorem ofNat_bitField (v lo n : Nat) : BitVec.ofNat n (bitField v lo n) = BitVec.ofNat n (v / 2 ^ lo) :=
  BitVec.eq_of_toNat_eq (by simp [bitField])

theorem setWindowWord_eq (e : WindowEntry) (k : Fin 7) (v : Word) :
    setWindowWord e k v = (enteredFrom e v.toNat)[k] := by
  match k with
  | 0 =>
    have lowest : bitFlag v.toNat 0 = (v.toNat % 2 == 1) := by simp [bitFlag, bitField]
    simp only [setWindowWord, ofNat_bitField, lowest]
    rfl
  | 1 => exact congrArg (fun x => { e with spanBase := x }) (longOf_highWord v e.spanBase)
  | 2 => exact congrArg (fun x => { e with spanBase := x }) (longOf_lowWord e.spanBase v)
  | 3 => rfl
  | 4 =>
    refine congrArg (fun x => { e with localBase := x }) (BitVec.eq_of_toNat_eq ?_)
    simp only [BitVec.toNat_ofNat]
    omega
  | 5 => exact congrArg (fun x => { e with requesterMask := x }) (longOf_highWord v e.requesterMask)
  | 6 => exact congrArg (fun x => { e with requesterMask := x }) (longOf_lowWord e.requesterMask v)

theorem flagBit_lt_two (b : Bool) : flagBit b < 2 := by cases b <;> decide

/-- What each word of a window entry reads as, as a number. -/
theorem windowWord_toNat (e : WindowEntry) (k : Fin 7) :
    (windowWord e k).toNat =
      (#v[flagBit e.valid + 2 * e.sizeExponent.toNat + 64 * e.access.toNat + 256 * e.widthCap.toNat +
            1024 * flagBit e.burst + 2048 * flagBit e.prefetchable,
          e.spanBase.toNat % 65536, e.spanBase.toNat / 65536, e.localBase.toNat % 65536, e.localBase.toNat / 65536,
          e.requesterMask.toNat % 65536, e.requesterMask.toNat / 65536] : Vector Nat 7)[k] := by
  match k with
  | 0 =>
    have := flagBit_lt_two e.valid
    have := flagBit_lt_two e.burst
    have := flagBit_lt_two e.prefetchable
    have := e.sizeExponent.isLt
    have := e.access.isLt
    have := e.widthCap.isLt
    exact (BitVec.toNat_ofNat _ _).trans (Nat.mod_eq_of_lt (by omega))
  | 1 => exact lowWord_toNat e.spanBase
  | 2 => exact highWord_toNat e.spanBase
  | 3 => exact BitVec.toNat_ofNat _ _
  | 4 =>
    have := e.localBase.isLt
    exact (BitVec.toNat_ofNat _ _).trans (Nat.mod_eq_of_lt (by omega))
  | 5 => exact lowWord_toNat e.requesterMask
  | 6 => exact highWord_toNat e.requesterMask

/-! ### The configuration registers -/

/-- The registers of the configuration (12.3). -/
def HostRegister.Configuration : HostRegister → Prop
  | .parameter _ | .window _ _ => True
  | _ => False

/-- The bits 12.3 lists for each configuration word. -/
def HostRegister.configurationMask : HostRegister → Word
  | .parameter _ => 0x00FF
  | .window _ k => windowMask[k]
  | _ => 0

theorem hostRegister_parameter {a : Byte} {p : Fin 10} (h : a.toNat = 0x30 + p.val) : hostRegister a = .parameter p := by
  obtain rfl : a = BitVec.ofNat 8 (0x30 + p.val) := by rw [← h, BitVec.ofNat_toNat, BitVec.setWidth_eq]
  clear h
  revert p
  decide

theorem hostRegister_window {a : Byte} {n : EntryNo} {k : Fin 7} (h : a.toNat = 0x40 + 8 * n.val + k.val) :
    hostRegister a = .window n k := by
  obtain rfl : a = BitVec.ofNat 8 (0x40 + 8 * n.val + k.val) := by rw [← h, BitVec.ofNat_toNat, BitVec.setWidth_eq]
  clear h
  revert n k
  decide

/-- A configuration address is one of a parameter or of a window word. -/
theorem isConfigurationAddress_iff {a : Byte} :
    isConfigurationAddress a = true ↔
      (∃ p : Fin 10, a.toNat = 0x30 + p.val) ∨ ∃ (n : EntryNo) (k : Fin 7), a.toNat = 0x40 + 8 * n.val + k.val := by
  simp only [isConfigurationAddress, Bool.or_eq_true, Bool.and_eq_true, decide_eq_true_eq, bne_iff_ne, and_assoc]
  constructor
  · rintro (⟨low, high⟩ | ⟨low, high, listed⟩)
    · exact .inl ⟨⟨a.toNat - 0x30, by omega⟩, by simp only; omega⟩
    · exact .inr ⟨⟨(a.toNat - 0x40) / 8, by omega⟩, ⟨a.toNat % 8, by omega⟩, by simp only; omega⟩
  · rintro (⟨p, h⟩ | ⟨n, k, h⟩) <;> omega

theorem hostRegister_configuration {a : Byte} (h : isConfigurationAddress a = true) :
    (hostRegister a).Configuration := by
  rcases isConfigurationAddress_iff.1 h with ⟨p, hp⟩ | ⟨n, k, hk⟩
  · rw [hostRegister_parameter hp]
    trivial
  · rw [hostRegister_window hk]
    trivial

/-- No two configuration addresses name one register. -/
theorem hostRegister_ne {a b : Byte} (ha : isConfigurationAddress a = true) (hb : isConfigurationAddress b = true)
    (h : b ≠ a) : hostRegister b ≠ hostRegister a := by
  have apart : b.toNat ≠ a.toNat := fun e => h (BitVec.eq_of_toNat_eq e)
  rcases isConfigurationAddress_iff.1 ha with ⟨p, hp⟩ | ⟨n, k, hk⟩ <;>
    rcases isConfigurationAddress_iff.1 hb with ⟨q, hq⟩ | ⟨m, j, hj⟩
  · rw [hostRegister_parameter hp, hostRegister_parameter hq]
    rintro ⟨⟩
    exact apart (hq.trans hp.symm)
  · rw [hostRegister_parameter hp, hostRegister_window hj]
    exact HostRegister.noConfusion
  · rw [hostRegister_window hk, hostRegister_parameter hq]
    exact HostRegister.noConfusion
  · rw [hostRegister_window hk, hostRegister_window hj]
    rintro ⟨⟩
    exact apart (hj.trans hk.symm)

/-- The listed bits of a configuration word, by its address (12.3). -/
theorem configurationMask_hostRegister {a : Byte} (h : isConfigurationAddress a = true) :
    (hostRegister a).configurationMask =
      if a.toNat < 0x40 then 0x00FF
      else if a.toNat % 8 = 0 then 0x0FFF else if a.toNat % 8 = 4 then 0x00FF else 0xFFFF := by
  rcases isConfigurationAddress_iff.1 h with ⟨p, hp⟩ | ⟨n, k, hk⟩
  · rw [hostRegister_parameter hp, if_pos (by omega)]
    rfl
  · have word : a.toNat % 8 = k.val := by omega
    rw [hostRegister_window hk, if_neg (by omega), word]
    clear hk word
    change windowMask[k] = _
    revert k
    decide

/-! ### What a write leaves in each register -/

/-- A write changes the window table and the parameters only. -/
theorem State.storeConfiguration_frame (s : State) (r : HostRegister) (v : Word) (l : Lanes) :
    s.storeConfiguration r v l =
      { s with
        windows := (s.storeConfiguration r v l).windows
        controller := { s.controller with parameters := (s.storeConfiguration r v l).controller.parameters } } := by
  cases r <;> rfl

/-- The low byte of a word, read as a word, is the word cut to it. -/
theorem setWidth_lowByte (w : Word) : (lowByte w).setWidth 16 = w &&& 0x00FF :=
  (congrArg (BitVec.setWidth 16) (BitVec.eq_of_toNat_eq (by simp [lowByte]))).trans
    (setWidth_setWidth_eq_and (n := 8) (by decide) w)

/-- The register written reads as the merged word, cut to its listed bits (R196). -/
theorem State.readRegister_storeConfiguration_self {r : HostRegister} (h : r.Configuration) (v : Word) (l : Lanes) :
    (s.storeConfiguration r v l).readRegister r = mergeLanes (s.readRegister r) v l &&& r.configurationMask := by
  cases r with
  | parameter p =>
    simp only [State.storeConfiguration, State.readRegister, State.onController_controller, Fin.getElem_fin,
      Vector.getElem_set_self]
    exact setWidth_lowByte _
  | window n k =>
    simp only [State.storeConfiguration, State.readRegister, State.setWindows_windows, Fin.getElem_fin,
      Vector.getElem_set_self]
    exact windowWord_setWindowWord_self _ k _
  | _ => exact h.elim

/-- Every other configuration register reads as before. -/
theorem State.readRegister_storeConfiguration_of_ne {r q : HostRegister} (hq : q.Configuration) (h : q ≠ r) (v : Word)
    (l : Lanes) : (s.storeConfiguration r v l).readRegister q = s.readRegister q := by
  cases q with
  | parameter q =>
    cases r with
    | parameter p =>
      have apart : p.val ≠ q.val := fun e => h (by rw [Fin.ext e])
      simp only [State.storeConfiguration, State.readRegister, State.onController_controller, Fin.getElem_fin,
        Vector.getElem_set_ne _ _ apart]
    | _ => rfl
  | window m j =>
    cases r with
    | window n k =>
      simp only [State.storeConfiguration, State.readRegister, State.setWindows_windows, Fin.getElem_fin]
      by_cases entry : n = m
      · subst entry
        rw [Vector.getElem_set_self]
        exact windowWord_setWindowWord_of_ne _ (fun e => h (by rw [e])) _
      · rw [Vector.getElem_set_ne _ _ fun e => entry (Fin.ext e)]
    | _ => rfl
  | _ => exact hq.elim

/-- A write to a parameter stores the low byte of the merged word, given as a number (R161). -/
theorem State.storeConfiguration_parameter (s : State) (p : Fin 10) (v : Word) (l : Lanes) :
    s.storeConfiguration (.parameter p) v l =
      { s with controller := { s.controller with
          parameters := s.controller.parameters.set p
            (BitVec.ofNat 8 (mergeLanes (s.controller.parameters[p].setWidth 16) v l).toNat) } } := rfl

/-- A write to a window word stores the listed bits of the merged word, given as a number (R97). -/
theorem State.storeConfiguration_window (s : State) (n : EntryNo) (k : Fin 7) (v : Word) (l : Lanes) :
    s.storeConfiguration (.window n k) v l =
      { s with
        windows := s.windows.set n
          (enteredFrom s.windows[n] (mergeLanes (windowWord s.windows[n] k) v l).toNat)[k] } := by
  rw [← setWindowWord_eq]
  rfl

/-! ### The command -/

theorem execConfigurationWrite_of_locked {a : Byte} (v : Word) {l : Lanes} (released : s.hostPort.resetAsserted = false)
    (address : isConfigurationAddress a = true) (strobed : l.wellFormed = true)
    (locked : s.controller.station ≠ .offline) :
    execConfigurationWrite a v l s = .next
      ((s.onHost fun h => { h with configLocked := true }).withResult .refusedLocked) := by
  rw [execConfigurationWrite, State.hostTakes_of_released released, address, strobed, Bool.and_self, if_pos rfl,
    if_neg locked]

theorem execConfigurationWrite_of_offline {a : Byte} (v : Word) {l : Lanes} (released : s.hostPort.resetAsserted = false)
    (address : isConfigurationAddress a = true) (strobed : l.wellFormed = true)
    (offline : s.controller.station = .offline) :
    execConfigurationWrite a v l s = .next (s.storeConfiguration (hostRegister a) v l) := by
  rw [execConfigurationWrite, State.hostTakes_of_released released, address, strobed, Bool.and_self, if_pos rfl,
    if_pos offline]

theorem State.hostRead_of_released (released : s.hostPort.resetAsserted = false) (a : Byte) :
    s.hostRead a = s.readRegister (hostRegister a) := by
  simp [State.hostRead, released]

/-- Settles O16: outside OFFLINE the write is refused, and in OFFLINE it stores the merged word in the register its address names. -/
theorem configurationWritesNeedOffline : Obligations.ConfigurationWritesNeedOffline := by
  intro s a v l released address strobed
  refine ⟨execConfigurationWrite_of_locked v released address strobed, fun offline => ?_⟩
  have released' : (s.storeConfiguration (hostRegister a) v l).hostPort.resetAsserted = false := by
    rw [State.storeConfiguration_frame]
    exact released
  refine ⟨_, execConfigurationWrite_of_offline v released address strobed offline, State.storeConfiguration_frame .., ?_,
    fun b apart hb => ?_, fun old => mergeLanes_toNat old v l, fun p hp => ?_, fun n k hk => ?_⟩
  · rw [State.hostRead_of_released released', State.hostRead_of_released released, ← configurationMask_hostRegister address]
    exact State.readRegister_storeConfiguration_self (hostRegister_configuration address) v l
  · rw [State.hostRead_of_released released', State.hostRead_of_released released]
    exact State.readRegister_storeConfiguration_of_ne (hostRegister_configuration hb) (hostRegister_ne address hb apart) v l
  · rw [hostRegister_parameter hp, State.storeConfiguration_parameter, mergeLanes_toNat,
      BitVec.toNat_setWidth_of_le (by decide)]
    exact ⟨rfl, rfl⟩
  · rw [hostRegister_window hk, State.storeConfiguration_window, mergeLanes_toNat, windowWord_toNat]
    refine ⟨rfl, ?_⟩
    clear hk
    fin_cases k <;> rfl

end Sys2Proof.Machine
end

section
/-! The target bus unit: the context its arbiter takes, the attempt it starts, and what ends the wait for a termination or for its
withdrawal. -/

namespace Sys2Proof.Machine

variable {s : State}

/-! ### Taking a context -/

theorem ContextState.isQueued_iff {x : ContextState} : x.isQueued = true ↔ x = .queued := by
  cases x <;> simp [ContextState.isQueued]

/-- The QUEUED context of the oldest creation order is the one the arbiter finds (R111). -/
theorem State.oldestQueued_eq_some_of_oldest {j : EntryNo} (queued : (s.context j).state = .queued)
    (oldest : ∀ k, k ≠ j → (s.context k).state = .queued → (s.context j).creation < (s.context k).creation) :
    s.oldestQueued = some j :=
  bestOf_eq_some_of_least (key := fun k => (s.context k).creation) (ContextState.isQueued_iff.2 queued)
    fun k hk h => oldest k hk (ContextState.isQueued_iff.1 h)

theorem State.oldestQueued_eq_none (unqueued : ∀ j, (s.context j).state ≠ .queued) : s.oldestQueued = none :=
  bestOf_eq_none.2 fun j => Bool.eq_false_iff.2 (mt ContextState.isQueued_iff.1 (unqueued j))

/-- The window's fields as the run holds them, the width cap as a number of bytes (R112). -/
theorem WindowEntry.heldFields_eq (e : WindowEntry) :
    e.heldFields =
      { spanBase := e.spanBase, localBase := e.localBase, widthCap := 2 ^ (e.widthCap.toNat - 1), burst := e.burst } := by
  rw [WindowEntry.heldFields, widthOf_getD_one]

theorem State.takeContext_eq (s : State) (j : EntryNo) :
    s.takeContext j =
      { s with
        responder := { s.responder with contexts := s.responder.contexts.set j { s.context j with state := .cycling } }
        target := { s.target with
          current := some j, held := some s.windows[(s.context j).window].heldFields, cycle := none, retryCount := 0 } } :=
  rfl

/-! ### Starting an attempt -/

/-- A WRITE cycle drives the next bytes of the context on its lanes (R115). -/
theorem drivenLanes_eq (y : Cycle) (c : Context) :
    drivenLanes y c = Vector.ofFn fun k : Fin 4 =>
      if y.write = true ∧ y.address.toNat % 4 ≤ k.val ∧ k.val < y.address.toNat % 4 + y.size then
        some (c.data.toList.getD (c.bytesMoved + (k.val - y.address.toNat % 4)) 0)
      else none := rfl

/-- A run's next attempt is of the cycle a retry request left. -/
theorem State.startAttempt_of_cycle {j : EntryNo} {h : HeldWindow} {y : Cycle} (current : s.target.current = some j)
    (held : s.target.held = some h) (cycle : s.target.cycle = some y) :
    s.startAttempt = s.startCycle y (s.context j) := by
  simp only [State.startAttempt, current, held, cycle]

/-- With no cycle left a run's next attempt is the first of a new one. -/
theorem State.startAttempt_of_no_cycle {j : EntryNo} {h : HeldWindow} (current : s.target.current = some j)
    (held : s.target.held = some h) (cycle : s.target.cycle = none) :
    s.startAttempt = s.startCycle (formCycle h (s.context j)) (s.context j) := by
  simp only [State.startAttempt, current, held, cycle]

/-- With no run there is no attempt to start. -/
theorem State.startAttempt_of_idle (idle : s.target.current = none) : s.startAttempt = s := by
  simp only [State.startAttempt, idle]

/-- The unit that takes a context starts with the first cycle of its window's fields (R112, R113). -/
theorem State.startAttempt_takeContext (s : State) (j : EntryNo) :
    (s.takeContext j).startAttempt =
      (s.takeContext j).startCycle
        (formCycle s.windows[(s.context j).window].heldFields { s.context j with state := .cycling })
        { s.context j with state := .cycling } := by
  have taken : (s.takeContext j).context j = { s.context j with state := .cycling } :=
    State.context_setContext_self s j _
  rw [State.startAttempt_of_no_cycle (s := s.takeContext j) rfl rfl rfl, taken]

/-! ### The arbiter -/

theorem execTargetBusArbiter_of_oldest {j : EntryNo} (idle : s.target.current = none)
    (oldest : s.oldestQueued = some j) :
    execTargetBusArbiter s =
      .next (if s.target.monitor = .stopped then (s.takeContext j).startAttempt else s.takeContext j) := by
  simp only [execTargetBusArbiter, idle, oldest, State.withdrawn, beq_iff_eq]

theorem execTargetBusArbiter_unchanged (h : s.target.current ≠ none ∨ s.oldestQueued = none) :
    execTargetBusArbiter s = .next s := by
  unfold execTargetBusArbiter
  cases current : s.target.current with
  | some _ => rfl
  | none => simp only [h.resolve_left fun busy => busy current]

/-- Settles O51: the arbiter takes the oldest QUEUED context, and the first attempt starts at once unless a withdrawal is awaited. -/
theorem arbiterTakesTheOldestQueued : Obligations.ArbiterTakesTheOldestQueued := by
  intro s
  refine ⟨fun j idle queued oldest => ?_, fun h => ?_⟩
  · have takes := execTargetBusArbiter_of_oldest idle (State.oldestQueued_eq_some_of_oldest queued oldest)
    refine ⟨fun stopped => takes.trans ?_, fun waits => takes.trans ?_⟩
    · rw [if_pos stopped, State.startAttempt_takeContext, WindowEntry.heldFields_eq]
      simp only [State.startCycle, drivenLanes_eq, formCycle, beq_iff_eq]
      rw [State.takeContext_eq, WindowEntry.heldFields_eq]
      rfl
    · rw [if_neg waits, State.takeContext_eq, WindowEntry.heldFields_eq]
  · exact execTargetBusArbiter_unchanged (h.imp_right State.oldestQueued_eq_none)

/-! ### The withdrawal and the monitor's expiry -/

theorem execTerminationWithdrawn_of_withdrawal {n : Nat} {goesOn : Bool}
    (waits : s.target.monitor = .withdrawal n goesOn) :
    execTerminationWithdrawn s = .next s.stopMonitor.startAttempt := by
  simp only [execTerminationWithdrawn, waits]

theorem execTerminationWithdrawn_of_termination {n : Nat} (waits : s.target.monitor = .termination n) :
    execTerminationWithdrawn s = .next s := by
  simp only [execTerminationWithdrawn, waits]

theorem execTerminationWithdrawn_of_stopped (stopped : s.target.monitor = .stopped) :
    execTerminationWithdrawn s = .next s := by
  simp only [execTerminationWithdrawn, stopped]

/-- When the run has ended, the expiry ends the wait as the withdrawal would. -/
theorem execTargetMonitorExpiry_of_ended {n : Nat} (waits : s.target.monitor = .withdrawal n false) :
    execTargetMonitorExpiry s = .next s.stopMonitor.startAttempt := by
  simp only [execTargetMonitorExpiry, waits]

/-- What stopping the monitor leaves for the run is what the withdrawal answers, and an expiry too once the run has ended. -/
theorem exec_of_withdrawalEnded {n : Nat} {goesOn : Bool} {t : State} (waits : s.target.monitor = .withdrawal n goesOn)
    (starts : s.stopMonitor.startAttempt = t) :
    execTerminationWithdrawn s = .next t ∧ (goesOn = false → execTargetMonitorExpiry s = .next t) := by
  subst starts
  refine ⟨execTerminationWithdrawn_of_withdrawal waits, fun ended => ?_⟩
  subst ended
  exact execTargetMonitorExpiry_of_ended waits

theorem execTargetMonitorExpiry_of_goesOn {n : Nat} {j : EntryNo} (waits : s.target.monitor = .withdrawal n true)
    (current : s.target.current = some j) :
    execTargetMonitorExpiry s = .next (s.stopMonitor.failRun j .targetTimeout) := by
  simp only [execTargetMonitorExpiry, waits, current]

theorem execTargetMonitorExpiry_of_termination {n : Nat} {j : EntryNo} (waits : s.target.monitor = .termination n)
    (current : s.target.current = some j) :
    execTargetMonitorExpiry s = .next (s.stopMonitor.idlePins.failRun j .targetTimeout) := by
  simp only [execTargetMonitorExpiry, waits, current]

theorem execTargetMonitorExpiry_of_stopped (stopped : s.target.monitor = .stopped) :
    execTargetMonitorExpiry s = .next s := by
  simp only [execTargetMonitorExpiry, stopped]

/-- Settles O55: the withdrawal, and the expiry of a wait whose run has ended, start the next attempt; every other expiry fails the
run. -/
theorem withdrawalAndMonitorExpiry : Obligations.WithdrawalAndMonitorExpiry := by
  intro s
  refine ⟨fun n goesOn waits => ⟨fun idle => ?_, fun j h current held => ⟨fun y cycle => ?_, fun cycle => ?_, ?_⟩⟩,
    fun n j waits current => ⟨execTerminationWithdrawn_of_termination waits, ?_⟩,
    fun stopped => ⟨execTerminationWithdrawn_of_stopped stopped, execTargetMonitorExpiry_of_stopped stopped⟩,
    fun h c => rfl, fun y c => rfl⟩
  · exact exec_of_withdrawalEnded waits (State.startAttempt_of_idle (s := s.stopMonitor) idle)
  · exact exec_of_withdrawalEnded waits (State.startAttempt_of_cycle (s := s.stopMonitor) current held cycle)
  · exact exec_of_withdrawalEnded waits (State.startAttempt_of_no_cycle (s := s.stopMonitor) current held cycle)
  · intro ongoing
    subst ongoing
    exact execTargetMonitorExpiry_of_goesOn waits current
  · exact execTargetMonitorExpiry_of_termination waits current

end Sys2Proof.Machine
end

end

section

/-! SUPPORT. Span access and frames: the laws of the operations they use, and the proofs of their statements. As above, the proofs are
elaborated one after another. -/

set_option Elab.async false

section
/-! Contention: which of two codes the line shows. -/

namespace Sys2Proof.Machine

/-! ### The contention code -/

theorem contentionCode_toNat (e : Urgency) (n : StationNo) : (contentionCode e n).toNat = (7 - e.val) * 32 + n.val := by
  rw [contentionCode, BitVec.toNat_ofNat, Nat.mod_eq_of_lt (by omega)]

theorem contentionCode_lt_iff (e f : Urgency) (m n : StationNo) :
    (contentionCode e m).toNat < (contentionCode f n).toNat ↔ f < e ∨ (f = e ∧ m < n) := by
  rw [contentionCode_toNat, contentionCode_toNat, Fin.lt_def, Fin.lt_def, Fin.ext_iff]
  omega

/-! ### The character of a byte -/

/-- The eight levels between a character's start and stop bits, the most significant first (R127). -/
def bitLevels (b : Byte) : List Level := (List.range 8).map fun k => levelOf (b.getMsbD k)

/-- The number a run of levels spells after the bits read so far, as `byteOfLevels` reads it. -/
def levelsValue (start : Nat) (levels : List Level) : Nat := levels.foldl (fun n l => 2 * n + bitOf l) start

theorem character_eq (b : Byte) : character b = .dominant :: (bitLevels b ++ [.recessive]) := rfl

@[simp] theorem bitLevels_length (b : Byte) : (bitLevels b).length = 8 := by simp [bitLevels]

theorem levelsValue_cons (start : Nat) (l : Level) (ls : List Level) :
    levelsValue start (l :: ls) = levelsValue (2 * start + bitOf l) ls := rfl

/-- What follows the bits read so far only fills in the places below them. -/
theorem levelsValue_bounds (ls : List Level) (start : Nat) :
    start * 2 ^ ls.length ≤ levelsValue start ls ∧ levelsValue start ls < (start + 1) * 2 ^ ls.length := by
  induction ls generalizing start with
  | nil => simp [levelsValue]
  | cons l ls ih =>
    obtain ⟨low, high⟩ := ih (2 * start + bitOf l)
    have bit : bitOf l ≤ 1 := by cases l <;> decide
    rw [levelsValue_cons, List.length_cons, pow_succ]
    constructor <;> nlinarith [Nat.two_pow_pos ls.length]

/-- Of two runs of equal length the one that spells the lower number is dominant where they first differ. -/
theorem levelsValue_lt_first_difference {xs ys : List Level} (length : xs.length = ys.length) {start : Nat}
    (lt : levelsValue start xs < levelsValue start ys) :
    ∃ k, k < xs.length ∧ xs.take k = ys.take k ∧ xs[k]? = some .dominant ∧ ys[k]? = some .recessive := by
  induction xs generalizing ys start with
  | nil =>
    obtain rfl : ys = [] := List.length_eq_zero_iff.1 length.symm
    exact absurd lt (lt_irrefl _)
  | cons x xs ih =>
    cases ys with
    | nil => cases length
    | cons y ys =>
      have tails : xs.length = ys.length := Nat.succ_injective length
      have later (same : x = y) := ih tails (start := 2 * start + bitOf x) (by simpa [same, levelsValue_cons] using lt)
      cases x <;> cases y
      case dominant.recessive => exact ⟨0, by simp⟩
      case recessive.dominant =>
        have above := (levelsValue_bounds xs (2 * start + 1)).1
        have below := (levelsValue_bounds ys (2 * start)).2
        rw [tails] at above
        exact absurd lt (Nat.not_lt.2 (below.le.trans above))
      all_goals
        obtain ⟨k, hk, same, hx, hy⟩ := later rfl
        exact ⟨k + 1, by simpa using hk, by simp [same], by simpa using hx, by simpa using hy⟩

theorem levelsValue_bitLevels (b : Byte) : levelsValue 0 (bitLevels b) = b.toNat := by
  have bound : levelsValue 0 (bitLevels b) < 256 := by simpa using (levelsValue_bounds (bitLevels b) 0).2
  have read : BitVec.ofNat 8 (levelsValue 0 (bitLevels b)) = b := byteOfLevels_bits b
  calc levelsValue 0 (bitLevels b) = levelsValue 0 (bitLevels b) % 256 := (Nat.mod_eq_of_lt bound).symm
    _ = b.toNat := congrArg BitVec.toNat read

/-- Where the characters of two bytes first differ, the lower byte's is dominant. -/
theorem character_first_difference {a b : Byte} (lt : a.toNat < b.toNat) :
    ∃ k, k < 10 ∧ (character a).take k = (character b).take k ∧
      (character a)[k]? = some .dominant ∧ (character b)[k]? = some .recessive := by
  rw [← levelsValue_bitLevels a, ← levelsValue_bitLevels b] at lt
  obtain ⟨k, hk, same, ha, hb⟩ := levelsValue_lt_first_difference (by simp) lt
  rw [bitLevels_length] at hk
  refine ⟨k + 1, by omega, ?_, ?_, ?_⟩
  · simp [character_eq, List.take_append_of_le_length, hk.le, same]
  · rw [character_eq, List.getElem?_cons_succ, List.getElem?_append_left (by simpa using hk), ha]
  · rw [character_eq, List.getElem?_cons_succ, List.getElem?_append_left (by simpa using hk), hb]

/-- Settles O34: the codes are ordered as their numbers, and so are the characters at their first difference. -/
theorem contentionCodesOrderTheStations : Obligations.ContentionCodesOrderTheStations := by
  refine ⟨contentionCode_lt_iff, fun ls => rfl, fun a b lt => ?_⟩
  obtain ⟨k, hk, same, ha, hb⟩ := character_first_difference lt
  refine ⟨fun reads => ?_, k, hk, same, ha, hb⟩
  have level := congrArg (fun ls : List Level => ls[k]?) reads
  simp [List.getElem?_zipWith, ha, hb, wiredAnd] at level

end Sys2Proof.Machine
end

section
/-! The first dominant bit of another station. -/

namespace Sys2Proof.Machine

/-- Settles O40: one case for each medium state and gap. -/
theorem dominantBitByTheMediumState : Obligations.DominantBitByTheMediumState := by
  intro s nothing
  change execDominantBitFromAnotherStation s = _
  simp only [execDominantBitFromAnotherStation, State.takeDue_of_nothingDue nothing]
  split
  · cases medium : s.link.medium with
    | gap => cases gap : s.link.gap <;> simp [State.enterContention, State.onLink, gap]
    | idle | contention | receiving | transmitting | reserved => rfl
  · rfl

end Sys2Proof.Machine
end

section
/-! What a receiver makes of a frame heard: the five checks, the kinds of frame a layout admits, and the frames that go no further. -/

namespace Sys2Proof.Machine

/-! ### The checks -/

theorem Layout.kindPlace_eq (l : Layout) : l.kindPlace = if l = .contended then 2 else 1 := by cases l <;> rfl

/-- The kind of a frame is in the two upper bits of its kind byte. -/
theorem bitField_kind (b : Byte) : bitField b.toNat 6 2 = b.toNat / 64 :=
  Nat.mod_eq_of_lt (by have := b.isLt; omega)

/-- The number of characters fits kind 1, 2 or 3, and no other kind has one that fits (R137). -/
theorem lengthFits_iff {kind n : Nat} :
    lengthFits kind n = true ↔ kind = 1 ∧ 14 ≤ n ∧ n ≤ 30 ∨ kind = 2 ∧ 9 ≤ n ∧ n ≤ 25 ∨ kind = 3 ∧ n = 9 := by
  rcases kind with _ | _ | _ | _ | kind <;> simp [lengthFits]

/-- The kind a frame heard has by the byte that stands where its layout puts the kind byte. -/
def kindHeard (l : Layout) (h : Heard) : Nat := (byteAt h.bytes (if l = .contended then 2 else 1)).toNat / 64

theorem kindHeard_eq (l : Layout) (h : Heard) : bitField (byteAt h.bytes l.kindPlace).toNat 6 2 = kindHeard l h := by
  rw [bitField_kind, Layout.kindPlace_eq, kindHeard]

theorem passesChecks_iff {l : Layout} {h : Heard} :
    passesChecks l h = true ↔
      h.framingError = false ∧ byteAt h.bytes 0 = 0x96 ∧ kindHeard l h ≠ 0 ∧
        lengthFits (kindHeard l h) h.bytes.length = true ∧ crc16 (coveredBytes h.bytes) = receivedCrc h.bytes := by
  simp only [passesChecks, kindHeard_eq, Config.syncByte, Bool.and_eq_true, Bool.not_eq_true', beq_iff_eq, bne_iff_ne,
    and_assoc]

/-! ### The reading -/

theorem readFrame_eq_failed_iff {l : Layout} {h : Heard} : readFrame l h = .failed ↔ passesChecks l h = false := by
  cases passes : passesChecks l h with
  | false => simp [readFrame, passes]
  | true =>
    simp only [readFrame, passes, if_true]
    split <;> simp

/-- The kinds that do not belong in a layout are misplaced there (R130). -/
theorem readFrame_eq_misplaced_iff {l : Layout} {h : Heard} {n : StationNo} :
    readFrame l h = .misplaced n ↔
      passesChecks l h = true ∧ (l = .contended ∧ kindHeard l h = 2 ∨ l ≠ .contended ∧ kindHeard l h ≠ 2) ∧
        misplacedSource l (kindHeard l h) h.bytes = n := by
  cases passes : passesChecks l h with
  | false => simp [readFrame, passes]
  | true =>
    obtain ⟨-, -, -, fits, -⟩ := passesChecks_iff.1 passes
    simp only [readFrame, passes, if_true, kindHeard_eq]
    rcases lengthFits_iff.1 fits with ⟨kind, -⟩ | ⟨kind, -⟩ | ⟨kind, -⟩ <;> cases l <;> simp [kind]

theorem misplacedSource_eq_iff {l : Layout} {kind : Nat} {bs : List Byte} {n : StationNo} :
    misplacedSource l kind bs = n ↔
      n.val = (byteAt bs ((if l = .contended then 2 else 1) + if kind = 3 then 1 else 2)).toNat % 32 := by
  rw [misplacedSource, Layout.kindPlace_eq, ← apply_ite, stationAt, eq_comm, Fin.ext_iff, Fin.val_ofNat]

/-! ### Frames that are not delivered -/

section

variable {s : State} {h : Heard}

theorem execFrameReceived_of_head (nothing : s.nothingDue) (hearing : s.hearing = true)
    (head : s.link.followTail = false) : execFrameReceived h s = .next (s.receive h).checkLeaving := by
  simp [execFrameReceived, State.takeDue_of_nothingDue nothing, hearing, head]

theorem State.receive_of_failed (failed : readFrame s.link.layout h = .failed) :
    s.receive h = (s.endHeard true).countBadFrame := by
  simp only [State.receive, failed]

theorem State.receive_of_misplaced {n : StationNo} (misplaced : readFrame s.link.layout h = .misplaced n)
    (other : n ≠ s.own) : s.receive h = s.endHeard false := by
  simp only [State.receive, misplaced, if_neg other]

theorem State.endHeard_of_contended (layout : s.link.layout = .contended) (reserves : Bool) :
    s.endHeard reserves = if reserves then s.enterReserved else s.enterGap .ordinary := by
  simp only [State.endHeard, layout]

theorem State.endHeard_of_lateReply (layout : s.link.layout = .lateReply) (reserves : Bool) :
    s.endHeard reserves = s.enterGap .ordinary := by
  simp only [State.endHeard, layout]

/-- The end of a frame in the reply slot ends the reservation. -/
theorem State.endHeard_of_replySlot (layout : s.link.layout = .replySlot) (reserves : Bool) :
    s.endHeard reserves = (s.enterGap .ordinary).endReservation := by
  simp only [State.endHeard, layout]

end

/-- Settles O41: the reading says which frames fail or are misplaced, and of these only the end of the frame is taken. -/
theorem badFramesAreCountedOnly : Obligations.BadFramesAreCountedOnly := by
  refine ⟨fun l h => ?_, fun l h n => ?_, fun s h n nothing head heard misplaced other => ?_,
    fun s h nothing head heard failed => ?_⟩
  · rw [readFrame_eq_failed_iff, ← Bool.not_eq_true, passesChecks_iff, lengthFits_iff]
    simp only [not_and_or, ne_eq, not_not, Bool.not_eq_false]
    rfl
  · rw [readFrame_eq_misplaced_iff, misplacedSource_eq_iff, ← Bool.not_eq_false, ← readFrame_eq_failed_iff]
    rfl
  · refine (execFrameReceived_of_head nothing (State.hearing_iff.2 heard) head).trans ?_
    rw [State.receive_of_misplaced misplaced other]
    split
    case h_1 layout => rw [State.endHeard_of_contended layout]; rfl
    case h_2 layout => rw [State.endHeard_of_lateReply layout]; rfl
    case h_3 layout => rw [State.endHeard_of_replySlot layout]; rfl
  · refine (execFrameReceived_of_head nothing (State.hearing_iff.2 heard) head).trans ?_
    rw [State.receive_of_failed failed]
    split
    case h_1 layout => rw [State.endHeard_of_contended layout]; rfl
    case h_2 layout => rw [State.endHeard_of_lateReply layout]; rfl
    case h_3 layout => rw [State.endHeard_of_replySlot layout]; rfl

end Sys2Proof.Machine
end

section
/-! The CRC and the line: what a byte does to the CRC register, where the levels of a frame stand on the line, and what a receiver hears
of them. -/

namespace Sys2Proof.Machine

/-! ### The CRC -/

/-- One bit of the CRC register, by the register's top bit (R138). -/
theorem crcBit_eq (r : Word) (x : Bool) : crcBit r x = if r.getLsbD 15 = x then r <<< 1 else (r <<< 1) ^^^ 0x1021 := by
  have top : r.msb = r.getLsbD 15 := rfl
  rw [crcBit, top]
  cases r.getLsbD 15 <;> cases x <;> rfl

/-- A byte after others takes the register on, bit by bit from the most significant (R138). -/
theorem crc16_append_singleton (bs : List Byte) (b : Byte) :
    crc16 (bs ++ [b]) =
      [b.getLsbD 7, b.getLsbD 6, b.getLsbD 5, b.getLsbD 4, b.getLsbD 3, b.getLsbD 2, b.getLsbD 1, b.getLsbD 0].foldl
        crcBit (crc16 bs) := by
  rw [crc16, List.foldl_append]
  rfl

/-! ### The levels of a frame -/

@[simp] theorem lineLevels_length (bs : List Byte) : (lineLevels bs).length = 10 * bs.length := by
  induction bs with
  | nil => rfl
  | cons b bs ih =>
    rw [lineLevels_cons, List.length_append, character_length, ih, List.length_cons]
    omega

/-- Every tenth level is a start bit, which is dominant (R127). -/
theorem lineLevels_start_bit {bs : List Byte} {i : Nat} (h : i < bs.length) :
    (lineLevels bs)[10 * i]? = some .dominant := by
  induction bs generalizing i with
  | nil => cases h
  | cons b bs ih =>
    cases i with
    | zero => rfl
    | succ i =>
      rw [lineLevels_cons, List.getElem?_append_right (by simp), character_length, Nat.mul_succ,
        Nat.add_sub_cancel]
      exact ih (Nat.lt_of_succ_lt_succ h)

/-- Among any ten levels in a row of a frame one is a start bit. -/
theorem lineLevels_dominant_within_ten {bs : List Byte} {k : Nat} (h : k + 10 ≤ 10 * bs.length) :
    ∃ j, j < 10 ∧ (lineLevels bs)[k + j]? = some .dominant := by
  have place : k + (10 * ((k + 9) / 10) - k) = 10 * ((k + 9) / 10) := by omega
  exact ⟨10 * ((k + 9) / 10) - k, by omega, by rw [place]; exact lineLevels_start_bit (by omega)⟩

/-! ### What is heard -/

/-- A receiver with room for the characters of a frame hears them, and then the rest of the line. -/
theorem hearCharacters_lineLevels (bs : List Byte) (n : Nat) (rest : List Level) :
    hearCharacters (bs.length + n) (lineLevels bs ++ rest) =
      { bytes := bs ++ (hearCharacters n rest).bytes, framingError := (hearCharacters n rest).framingError } := by
  induction bs with
  | nil => simp
  | cons b bs ih =>
    rw [lineLevels_cons, List.append_assoc, List.length_cons, Nat.add_right_comm, hearCharacters_character, ih]
    rfl

/-- Where the next start bit reads recessive, the frame has ended. -/
theorem hearCharacters_of_recessive {rest : List Level} (h : rest.head? ≠ some .dominant) (n : Nat) :
    hearCharacters n rest = { bytes := [], framingError := false } := by
  cases n with
  | zero => rfl
  | succ n =>
    rcases rest with _ | ⟨_ | _, rest⟩
    · rfl
    · exact absurd rfl h
    · rfl

/-- A dominant stop bit is a framing error, which ends the frame. -/
theorem hearCharacters_of_dominant_stop (n : Nat) (b : Byte) (rest : List Level) :
    hearCharacters (n + 1) (.dominant :: (bitLevels b ++ .dominant :: rest)) =
      { bytes := [b], framingError := true } := by
  have read : byteOfLevels (bitLevels b) = b := byteOfLevels_bits b
  have bits : (List.range 8).map (fun k => (bitLevels b ++ .dominant :: rest).getD k .recessive) = bitLevels b := rfl
  have stop : (bitLevels b ++ .dominant :: rest).getD 8 .recessive = .dominant := rfl
  simp only [hearCharacters, bits, stop, read]

theorem hearLine_lineLevels {rest : List Level} (bs : List Byte) (h : rest.head? ≠ some .dominant) :
    hearLine (lineLevels bs ++ rest) = { bytes := bs, framingError := false } := by
  have room : (lineLevels bs ++ rest).length = bs.length + (9 * bs.length + rest.length) := by simp; omega
  rw [hearLine, room, hearCharacters_lineLevels, hearCharacters_of_recessive h, List.append_nil]

theorem hearLine_of_dominant_stop (bs : List Byte) (b : Byte) (rest : List Level) :
    hearLine (lineLevels bs ++ .dominant :: (bitLevels b ++ .dominant :: rest)) =
      { bytes := bs ++ [b], framingError := true } := by
  have room : (lineLevels bs ++ .dominant :: (bitLevels b ++ .dominant :: rest)).length =
      bs.length + (9 * bs.length + rest.length + 9 + 1) := by simp; omega
  rw [hearLine, room, hearCharacters_lineLevels, hearCharacters_of_dominant_stop]

/-! ### What this station drives -/

theorem State.drivenLevel_of_frame {s : State} {bs : List Byte} (driven : s.drivenFrame = some bs) (k : Nat) :
    s.drivenLevel k = (lineLevels bs).getD k .recessive := by
  rw [State.drivenLevel, driven, Option.getD_some]

theorem State.drivenLevel_in_frame {s : State} {bs : List Byte} (driven : s.drivenFrame = some bs) {k : Nat}
    (h : k < 10 * bs.length) : (lineLevels bs)[k]? = some (s.drivenLevel k) := by
  have place : k < (lineLevels bs).length := by simpa using h
  rw [State.drivenLevel_of_frame driven, List.getD_eq_getElem _ _ place, List.getElem?_eq_getElem place]

theorem State.drivenLevel_past_frame {s : State} {bs : List Byte} (driven : s.drivenFrame = some bs) {k : Nat}
    (h : 10 * bs.length ≤ k) : s.drivenLevel k = .recessive := by
  rw [State.drivenLevel_of_frame driven, List.getD_eq_default _ _ (by simpa using h)]

end Sys2Proof.Machine
end

section
/-! Frames: the reading of a frame made from the bytes the CRC covers, and each kind of frame read back, its spare bits set or not. -/

namespace Sys2Proof.Machine

/-! ### A whole frame -/

@[simp] theorem frameOf_length (body : List Byte) : (frameOf body).length = body.length + 3 := by simp [frameOf]

theorem byteAt_frameOf_zero (body : List Byte) : byteAt (frameOf body) 0 = 0x96 := rfl

/-- The places after the sync byte are those of the bytes the CRC covers. -/
theorem byteAt_frameOf_succ {body : List Byte} {k : Nat} (h : k < body.length) :
    byteAt (frameOf body) (k + 1) = byteAt body k := by
  simp [byteAt, frameOf, List.getElem?_append_left h]

theorem take_frameOf (body : List Byte) : (frameOf body).take ((frameOf body).length - 2) = Config.syncByte :: body := by
  rw [frameOf_length]
  simp [frameOf]

theorem coveredBytes_frameOf (body : List Byte) : coveredBytes (frameOf body) = body := by
  rw [coveredBytes, take_frameOf]
  rfl

theorem dataFrom_frameOf (body : List Byte) (k : Nat) : dataFrom (frameOf body) (k + 1) = body.drop k := by
  rw [dataFrom, take_frameOf]
  rfl

theorem wordOf_lowByte_highByte (w : Word) : wordOf (lowByte w) (highByte w) = w := by
  apply BitVec.eq_of_toNat_eq
  rw [wordOf_toNat, lowByte_toNat, highByte_toNat]
  omega

theorem receivedCrc_frameOf (body : List Byte) : receivedCrc (frameOf body) = crc16 body := by
  have low : byteAt (frameOf body) (body.length + 1) = lowByte (crc16 body) := by simp [byteAt, frameOf]
  have high : byteAt (frameOf body) (body.length + 2) = highByte (crc16 body) := by simp [byteAt, frameOf]
  rw [receivedCrc, frameOf_length]
  exact (congrArg₂ wordOf low high).trans (wordOf_lowByte_highByte _)

/-- A frame whose number of characters fits its kind passes the checks. -/
theorem passesChecks_frameOf {l : Layout} {body : List Byte} {kind : Nat}
    (heard : kindHeard l { bytes := frameOf body, framingError := false } = kind)
    (fits : lengthFits kind (body.length + 3) = true) :
    passesChecks l { bytes := frameOf body, framingError := false } = true := by
  have named : kind ≠ 0 := by
    rintro rfl
    cases fits
  rw [passesChecks_iff, heard, receivedCrc_frameOf, coveredBytes_frameOf, frameOf_length]
  exact ⟨rfl, byteAt_frameOf_zero body, named, fits, rfl⟩

/-- A byte among the first ones of the bytes the CRC covers. -/
theorem byteAt_frameOf_append {first data : List Byte} {k : Nat} {b : Byte} (h : first[k]? = some b) :
    byteAt (frameOf (first ++ data)) (k + 1) = b := by
  obtain ⟨place, rfl⟩ := List.getElem?_eq_some_iff.1 h
  rw [byteAt_frameOf_succ (by simp; omega)]
  simp [byteAt, List.getElem?_append_left place, place]

/-! ### The reading by kind -/

theorem readFrame_of_segment {h : Heard} (passes : passesChecks .contended h = true)
    (kind : kindHeard .contended h = 1) : readFrame .contended h = .good (.segment (readSegment h.bytes)) := by
  simp only [readFrame, passes, if_true, kindHeard_eq, kind]

theorem readFrame_of_beacon {h : Heard} (passes : passesChecks .contended h = true)
    (kind : kindHeard .contended h = 3) : readFrame .contended h = .good (.beacon (readBeacon h.bytes)) := by
  simp only [readFrame, passes, if_true, kindHeard_eq, kind]

theorem readFrame_of_answer {l : Layout} {h : Heard} (layout : l ≠ .contended) (passes : passesChecks l h = true)
    (kind : kindHeard l h = 2) : readFrame l h = .good (.answer (readAnswer h.bytes)) := by
  cases l with
  | contended => exact absurd rfl layout
  | replySlot | lateReply => simp only [readFrame, passes, if_true, kindHeard_eq, kind]

/-! ### Bytes with spare bits -/

/-- A bit of weight `n`, set or not. -/
def weighted (b : Bool) (n : Nat) : Nat := if b then n else 0

theorem weighted_false (n : Nat) : weighted false n = 0 := rfl

theorem weighted_true (n : Nat) : weighted true n = n := rfl

/-- A station-number byte with its three spare bits. -/
def spareStationByte (n : StationNo) (spare : Fin 8) : Byte := BitVec.ofNat 8 (n.val + 32 * spare.val)

/-- A tag and generation byte with its spare bit. -/
def spareTagByte (t : Tag) (g : Generation) (spare : Bool) : Byte :=
  BitVec.ofNat 8 (t.val + 8 * g.val + weighted spare 128)

theorem stationAt_of_spareStationByte {bs : List Byte} {k : Nat} {n : StationNo} {spare : Fin 8}
    (h : byteAt bs k = spareStationByte n spare) : stationAt bs k = n := by
  rw [stationAt, h, spareStationByte, Fin.ext_iff, Fin.val_ofNat, BitVec.toNat_ofNat]
  omega

theorem spareTagByte_toNat (t : Tag) (g : Generation) (spare : Bool) :
    (spareTagByte t g spare).toNat = t.val + 8 * g.val + weighted spare 128 := by
  rw [spareTagByte, BitVec.toNat_ofNat, Nat.mod_eq_of_lt]
  cases spare <;> simp only [weighted_false, weighted_true] <;> omega

theorem tag_of_spareTagByte (t : Tag) (g : Generation) (spare : Bool) :
    Fin.ofNat 8 (bitField (spareTagByte t g spare).toNat 0 3) = t := by
  rw [spareTagByte_toNat, Fin.ext_iff, Fin.val_ofNat, bitField]
  cases spare <;> simp only [weighted_false, weighted_true] <;> omega

theorem generation_of_spareTagByte (t : Tag) (g : Generation) (spare : Bool) :
    Fin.ofNat 16 (bitField (spareTagByte t g spare).toNat 3 4) = g := by
  rw [spareTagByte_toNat, Fin.ext_iff, Fin.val_ofNat, bitField]
  cases spare <;> simp only [weighted_false, weighted_true] <;> omega

theorem tagByte_eq (t : Tag) (g : Generation) : tagByte t g = spareTagByte t g false :=
  congrArg (BitVec.ofNat 8) (show g.val * 8 + t.val = t.val + 8 * g.val + 0 by omega)

/-! ### SEGMENT -/

/-- A SEGMENT's kind byte with its spare bit. -/
def spareSegmentKind (g : Segment) (spare : Bool) : Byte :=
  BitVec.ofNat 8
    (64 + weighted (g.op == .write) 32 + weighted g.firstFlag 16 + 2 * g.urgency.val + weighted spare 1)

/-- The bytes of a SEGMENT before its data that the CRC covers, with spare bits (12.1). -/
def segmentHead (code : Byte) (g : Segment) (s1 : Bool) (s2 s3 : Fin 8) (s4 : Bool) : List Byte :=
  [code, spareSegmentKind g s1, spareStationByte g.destination s2, spareStationByte g.source s3,
    spareTagByte g.tag g.generation s4, g.offset, BitVec.ofNat 8 g.address.toNat, BitVec.ofNat 8 (g.address.toNat / 256),
    BitVec.ofNat 8 (g.address.toNat / 65536), BitVec.ofNat 8 (g.address.toNat / 16777216), g.length]

theorem segmentKind_eq (g : Segment) : segmentKind g = spareSegmentKind g false := by
  obtain ⟨op, first, _⟩ := g
  cases op <;> cases first <;> rfl

theorem segmentFrame_eq (code : Byte) (g : Segment) :
    segmentFrame code g = frameOf (segmentHead code g false 0 0 false ++ g.data) := by
  rw [segmentFrame, segmentKind_eq, tagByte_eq]
  rfl

/-- What a SEGMENT's kind byte says, whatever its spare bit. -/
theorem spareSegmentKind_fields (g : Segment) (spare : Bool) :
    (spareSegmentKind g spare).toNat / 64 = 1 ∧
      (if bitFlag (spareSegmentKind g spare).toNat 5 then Op.write else Op.read) = g.op ∧
      bitFlag (spareSegmentKind g spare).toNat 4 = g.firstFlag ∧
      Fin.ofNat 8 (bitField (spareSegmentKind g spare).toNat 1 3) = g.urgency := by
  have finite : ∀ (op : Op) (first spare : Bool) (u : Urgency),
      let kind := (BitVec.ofNat 8
        (64 + weighted (op == .write) 32 + weighted first 16 + 2 * u.val + weighted spare 1)).toNat
      kind / 64 = 1 ∧ (if bitFlag kind 5 then Op.write else Op.read) = op ∧ bitFlag kind 4 = first ∧
        Fin.ofNat 8 (bitField kind 1 3) = u := by
    intro op
    cases op <;> decide
  exact finite g.op g.firstFlag spare g.urgency

/-- The four bytes of a span address give it back. -/
theorem addressAt_of_bytes {bs : List Byte} {k : Nat} {a : BitVec 32} (h0 : byteAt bs k = BitVec.ofNat 8 a.toNat)
    (h1 : byteAt bs (k + 1) = BitVec.ofNat 8 (a.toNat / 256))
    (h2 : byteAt bs (k + 2) = BitVec.ofNat 8 (a.toNat / 65536))
    (h3 : byteAt bs (k + 3) = BitVec.ofNat 8 (a.toNat / 16777216)) : addressAt bs k = a := by
  apply BitVec.eq_of_toNat_eq
  rw [addressAt, h0, h1, h2, h3]
  simp only [BitVec.toNat_ofNat]
  omega

theorem readSegment_frameOf (code : Byte) (g : Segment) (s1 : Bool) (s2 s3 : Fin 8) (s4 : Bool) :
    readSegment (frameOf (segmentHead code g s1 s2 s3 s4 ++ g.data)) = g := by
  have place {k : Nat} {b : Byte} (h : (segmentHead code g s1 s2 s3 s4)[k]? = some b) :=
    byteAt_frameOf_append (data := g.data) h
  obtain ⟨-, op, first, urgency⟩ := spareSegmentKind_fields g s1
  have address : addressAt (frameOf (segmentHead code g s1 s2 s3 s4 ++ g.data)) 7 = g.address :=
    addressAt_of_bytes (place (k := 6) rfl) (place (k := 7) rfl) (place (k := 8) rfl) (place (k := 9) rfl)
  have data : dataFrom (frameOf (segmentHead code g s1 s2 s3 s4 ++ g.data)) 12 = g.data := dataFrom_frameOf _ 11
  simp only [readSegment, place (k := 1) rfl, place (k := 4) rfl, place (k := 5) rfl, place (k := 10) rfl,
    stationAt_of_spareStationByte (place (k := 2) rfl), stationAt_of_spareStationByte (place (k := 3) rfl),
    tag_of_spareTagByte, generation_of_spareTagByte, op, first, urgency, address, data]

/-- A SEGMENT with at most 16 data bytes reads back, whatever its spare bits. -/
theorem readFrame_segmentHead (code : Byte) {g : Segment} (h : g.data.length ≤ 16) (s1 : Bool) (s2 s3 : Fin 8)
    (s4 : Bool) :
    readFrame .contended { bytes := frameOf (segmentHead code g s1 s2 s3 s4 ++ g.data), framingError := false } =
      .good (.segment g) := by
  have kind : kindHeard .contended
      { bytes := frameOf (segmentHead code g s1 s2 s3 s4 ++ g.data), framingError := false } = 1 :=
    (spareSegmentKind_fields g s1).1
  have passes := passesChecks_frameOf kind (lengthFits_iff.2 (.inl (by simp [segmentHead]; omega)))
  rw [readFrame_of_segment passes kind, readSegment_frameOf]

/-! ### ANSWER -/

/-- An ANSWER's kind byte; it has no spare bit. -/
theorem answerKind_fields (a : Answer) :
    (answerKind a).toNat / 64 = 2 ∧ answerCodeOf (answerKind a).toNat = a.code ∧
      BitVec.ofNat 4 (bitField (answerKind a).toNat 0 4) = a.cause := by
  have finite : ∀ (code : AnswerCode) (cause : BitVec 4),
      let kind := (BitVec.ofNat 8 (128 + 16 * code.code + cause.toNat)).toNat
      kind / 64 = 2 ∧ answerCodeOf kind = code ∧ BitVec.ofNat 4 (bitField kind 0 4) = cause := by
    intro code
    cases code <;> decide
  exact finite a.code a.cause

/-- The bytes of an ANSWER before its data that the CRC covers, with spare bits (12.1). -/
def answerHead (a : Answer) (s2 s3 : Fin 8) (s4 : Bool) : List Byte :=
  [answerKind a, spareStationByte a.destination s2, spareStationByte a.source s3, spareTagByte a.tag a.generation s4,
    a.offset, a.count]

theorem answerFrame_eq (a : Answer) : answerFrame a = frameOf (answerHead a 0 0 false ++ a.data) := by
  rw [answerFrame, tagByte_eq]
  rfl

theorem readAnswer_frameOf (a : Answer) (s2 s3 : Fin 8) (s4 : Bool) :
    readAnswer (frameOf (answerHead a s2 s3 s4 ++ a.data)) = a := by
  have place {k : Nat} {b : Byte} (h : (answerHead a s2 s3 s4)[k]? = some b) :=
    byteAt_frameOf_append (data := a.data) h
  obtain ⟨-, code, cause⟩ := answerKind_fields a
  have data : dataFrom (frameOf (answerHead a s2 s3 s4 ++ a.data)) 7 = a.data := dataFrom_frameOf _ 6
  simp only [readAnswer, place (k := 0) rfl, place (k := 3) rfl, place (k := 4) rfl, place (k := 5) rfl,
    stationAt_of_spareStationByte (place (k := 1) rfl), stationAt_of_spareStationByte (place (k := 2) rfl),
    tag_of_spareTagByte, generation_of_spareTagByte, code, cause, data]

/-- An ANSWER with at most 16 data bytes reads back in either answer layout, whatever its spare bits. -/
theorem readFrame_answerHead {l : Layout} (layout : l ≠ .contended) {a : Answer} (h : a.data.length ≤ 16)
    (s2 s3 : Fin 8) (s4 : Bool) :
    readFrame l { bytes := frameOf (answerHead a s2 s3 s4 ++ a.data), framingError := false } = .good (.answer a) := by
  have kind : kindHeard l { bytes := frameOf (answerHead a s2 s3 s4 ++ a.data), framingError := false } = 2 := by
    rw [kindHeard, if_neg layout]
    exact (answerKind_fields a).1
  have passes := passesChecks_frameOf kind (lengthFits_iff.2 (.inr (.inl (by simp [answerHead]; omega))))
  rw [readFrame_of_answer layout passes kind, readAnswer_frameOf]

/-! ### BEACON -/

/-- A BEACON's kind byte with its spare bit. -/
def spareBeaconKind (b : OwnBeacon) (spare : Bool) : Byte :=
  BitVec.ofNat 8 (192 + 16 * b.state.code + 2 * b.wakeLevel.val + weighted spare 1)

/-- The bytes of a BEACON that the CRC covers, with spare bits (12.1). -/
def beaconBody (code : Byte) (own : StationNo) (b : OwnBeacon) (s1 : Bool) (s2 : Fin 8) : List Byte :=
  [code, spareBeaconKind b s1, spareStationByte own s2, b.sequence, lowByte b.digest, highByte b.digest]

theorem beaconFrame_eq (code : Byte) (own : StationNo) (b : OwnBeacon) :
    beaconFrame code own b = frameOf (beaconBody code own b false 0) := rfl

/-- What a BEACON's kind byte says, whatever its spare bit. -/
theorem spareBeaconKind_fields (b : OwnBeacon) (spare : Bool) :
    (spareBeaconKind b spare).toNat / 64 = 3 ∧
      BitVec.ofNat 2 (bitField (spareBeaconKind b spare).toNat 4 2) = BitVec.ofNat 2 b.state.code ∧
      Fin.ofNat 8 (bitField (spareBeaconKind b spare).toNat 1 3) = b.wakeLevel := by
  have finite : ∀ (state : BeaconState) (level : Urgency) (spare : Bool),
      let kind := (BitVec.ofNat 8 (192 + 16 * state.code + 2 * level.val + weighted spare 1)).toNat
      kind / 64 = 3 ∧ BitVec.ofNat 2 (bitField kind 4 2) = BitVec.ofNat 2 state.code ∧
        Fin.ofNat 8 (bitField kind 1 3) = level := by
    intro state
    cases state <;> decide
  exact finite b.state b.wakeLevel spare

/-- A BEACON as received. -/
def OwnBeacon.received (b : OwnBeacon) (own : StationNo) : Beacon :=
  { stateCode := BitVec.ofNat 2 b.state.code, wakeLevel := b.wakeLevel, source := own, sequence := b.sequence,
    digest := b.digest }

theorem readBeacon_frameOf (code : Byte) (own : StationNo) (b : OwnBeacon) (s1 : Bool) (s2 : Fin 8) :
    readBeacon (frameOf (beaconBody code own b s1 s2)) = b.received own := by
  have place {k : Nat} {x : Byte} (h : (beaconBody code own b s1 s2)[k]? = some x) :=
    byteAt_frameOf_append (data := []) h
  simp only [List.append_nil] at place
  obtain ⟨-, state, level⟩ := spareBeaconKind_fields b s1
  simp only [readBeacon, place (k := 1) rfl, place (k := 3) rfl, place (k := 4) rfl, place (k := 5) rfl,
    stationAt_of_spareStationByte (place (k := 2) rfl), wordOf_lowByte_highByte, state, level, OwnBeacon.received]

/-- A BEACON reads back, whatever its spare bits. -/
theorem readFrame_beaconBody (code : Byte) (own : StationNo) (b : OwnBeacon) (s1 : Bool) (s2 : Fin 8) :
    readFrame .contended { bytes := frameOf (beaconBody code own b s1 s2), framingError := false } =
      .good (.beacon (b.received own)) := by
  have kind : kindHeard .contended { bytes := frameOf (beaconBody code own b s1 s2), framingError := false } = 3 :=
    (spareBeaconKind_fields b s1).1
  have passes := passesChecks_frameOf kind rfl
  rw [readFrame_of_beacon passes kind, readBeacon_frameOf]

/-! ### The statement -/

/-- Settles O56: the CRC bit by bit, the line level by level, and each kind of frame read back from the bytes of 12.1. -/
theorem framesSentAreReadBack : Obligations.FramesSentAreReadBack := by
  refine ⟨⟨rfl, fun bs b => ?_⟩, fun b rest bs => ?_, fun s k => ?_, fun code g a own b => ?_, fun code g h => ?_,
    fun l a layout h => ?_, fun code own b => ?_, fun code g s1 s4 s2 s3 => ?_, fun l a s4 s2 s3 => ?_,
    fun code own b s1 s2 => ?_⟩
  · rw [crc16_append_singleton, funext₂ crcBit_eq]
  · exact ⟨rfl, rfl, lineLevels_length bs, fun k => lineLevels_dominant_within_ten, hearLine_lineLevels bs,
      hearLine_of_dominant_stop bs b rest⟩
  · exact ⟨fun silent => State.drivenLevel_of_none silent k, fun bs driven =>
      ⟨State.drivenLevel_in_frame driven, State.drivenLevel_past_frame driven⟩⟩
  · refine ⟨?_, ?_, rfl⟩
    · rw [segmentFrame_eq, frameOf_length, List.length_append, Nat.add_right_comm]
      rfl
    · rw [answerFrame_eq, frameOf_length, List.length_append, Nat.add_right_comm]
      rfl
  · rw [segmentFrame_eq]
    exact readFrame_segmentHead code h false 0 0 false
  · rw [answerFrame_eq]
    exact readFrame_answerHead layout h 0 0 false
  · rw [beaconFrame_eq, readFrame_beaconBody, OwnBeacon.received]
    cases b.state <;> rfl
  · exact ⟨segmentFrame_eq code g, fun h => readFrame_segmentHead code h s1 s2 s3 s4⟩
  · obtain ⟨_, _, _, _, _, code, _⟩ := a
    cases code <;> exact ⟨answerFrame_eq _, fun layout h => readFrame_answerHead layout h s2 s3 s4⟩
  · have same : readFrame .contended { bytes := frameOf (beaconBody code own b s1 s2), framingError := false } =
        readFrame .contended { bytes := beaconFrame code own b, framingError := false } := by
      rw [beaconFrame_eq, readFrame_beaconBody, readFrame_beaconBody]
    obtain ⟨state, _⟩ := b
    cases state <;> exact ⟨beaconFrame_eq code own _, same⟩

end Sys2Proof.Machine
end

section
/-! What only a few commands change. Every operation of the model but those of such a command keeps the own number, the station parameters
and the rate, the generation of every slot, and frees no slot. -/

namespace Sys2Proof.Machine

/-- The own number and the station parameters. -/
def Controller.fixed (c : Controller) : StationNo × Vector Byte 10 := (c.ownNumber, c.parameters)

@[simp] theorem Controller.fixed_mk (st : StationState) (n : StationNo) (p : Vector Byte 10) (lock : Bool)
    (f : ConfigFault) (listen beacon : Option Nat) (pending : Option PendingBeacon) (seq : Byte) :
    Controller.fixed
      { station := st, ownNumber := n, parameters := p, locked := lock, faultDetail := f, listenTimer := listen,
        beaconTimer := beacon, pendingBeacon := pending, beaconSequence := seq } = (n, p) := rfl

@[simp] theorem Controller.fixed_self (c : Controller) : (c.ownNumber, c.parameters) = c.fixed := rfl

/-- Every slot has its generation still, and one that is FREE was FREE. -/
structure SlotsKept (r r' : Requester) : Prop where
  generation : ∀ i : Tag, r'.slots[i].generation = r.slots[i].generation
  free       : ∀ i : Tag, r'.slots[i].state = .free → r.slots[i].state = .free

/-- What every operation keeps that is not the effect of one command alone. -/
abbrev State.Keeps (s t : State) : Prop :=
  t.controller.fixed = s.controller.fixed ∧ t.link.rate = s.link.rate ∧
    ∀ r, SlotsKept r s.requester → SlotsKept r t.requester

theorem State.Keeps.trans {s t u : State} (st : s.Keeps t) (tu : t.Keeps u) : s.Keeps u := by
  obtain ⟨fixed, rate, slots⟩ := st
  obtain ⟨fixed', rate', slots'⟩ := tu
  exact ⟨fixed'.trans fixed, rate'.trans rate, fun r kept => slots' r (slots r kept)⟩

theorem SlotsKept.refl (r : Requester) : SlotsKept r r := ⟨fun _ => rfl, fun _ => id⟩

/-- The queue and the counters have no part in it. -/
@[simp] theorem slotsKept_mk (r r' : Requester) (queue : List Descriptor) (drain seq next : Nat) (fence : Bool) :
    SlotsKept r
      { queue := queue, drainCount := drain, fenceWait := fence, dispatchSeq := seq, doneNext := next,
        slots := r'.slots } ↔ SlotsKept r r' :=
  ⟨fun h => ⟨h.generation, h.free⟩, fun h => ⟨h.generation, h.free⟩⟩

variable (s : State)

/-! ### Slots -/

/-- Replacing a slot keeps the slots when it keeps the generation and does not free the slot. -/
theorem SlotsKept.of_setSlot {s : State} {r : Requester} {i : Tag} {x : Slot} (h : SlotsKept r s.requester)
    (generation : x.generation = (s.slot i).generation) (free : x.state = .free → (s.slot i).state = .free) :
    SlotsKept r (s.setSlot i x).requester := by
  refine ⟨fun j => ?_, fun j hj => ?_⟩
  · have same := h.generation j
    change ((s.setSlot i x).slot j).generation = _
    rw [State.slot_setSlot]
    split
    · subst j
      exact generation.trans same
    · exact same
  · have same := h.free j
    change ((s.setSlot i x).slot j).state = .free at hj
    rw [State.slot_setSlot] at hj
    split at hj
    · subst j
      exact same (free hj)
    · exact same hj

@[simp] theorem State.setSlotState_keeps (i : Tag) {st : SlotState} (h : st ≠ .free) : s.Keeps (s.setSlotState i st) :=
  ⟨rfl, rfl, fun _ kept => kept.of_setSlot rfl fun free => absurd free h⟩

@[simp] theorem State.finishSlot_keeps (i : Tag) (st : Status) : s.Keeps (s.finishSlot i st) := by
  simp +contextual [State.Keeps, State.finishSlot]

@[simp] theorem State.setQueue_keeps (q : List Descriptor) : s.Keeps (s.setQueue q) := by
  simp +contextual [State.Keeps, State.setQueue]

@[simp] theorem State.releaseBehind_keeps (n : Nat) (d : StationNo) : s.Keeps (State.releaseBehind n d s) := by
  induction n generalizing s with
  | zero => simp [State.Keeps, State.releaseBehind]
  | succ n ih =>
    unfold State.releaseBehind
    (repeat' split) <;> simp +contextual [State.Keeps, ih]

@[simp] theorem State.endSlot_keeps (i : Tag) (st : Status) : s.Keeps (s.endSlot i st) := by
  simp +contextual [State.Keeps, State.endSlot]

@[simp] theorem State.endSlots_keeps (which : Tag → Bool) (st : Status) : s.Keeps (s.endSlots which st) := by
  refine ⟨rfl, rfl, fun r kept => ⟨fun i => ?_, fun i free => ?_⟩⟩
  · refine Eq.trans ?_ (kept.generation i)
    change ((s.endSlots which st).slot i).generation = (s.slot i).generation
    rw [State.slot_endSlots]
    split <;> rfl
  · refine kept.free i ?_
    change ((s.endSlots which st).slot i).state = .free at free
    rw [State.slot_endSlots] at free
    split at free
    · cases free
    · exact free

/-- Changing slots keeps them when the change keeps the generation and frees none. -/
@[simp] theorem State.markSlots_keeps (which : Tag → Bool) {f : Slot → Slot}
    (h : ∀ x, (f x).generation = x.generation ∧ ((f x).state = .free → x.state = .free)) :
    s.Keeps (s.markSlots which f) := by
  refine ⟨rfl, rfl, fun r kept => ⟨fun i => ?_, fun i free => ?_⟩⟩
  · refine Eq.trans ?_ (kept.generation i)
    change ((s.markSlots which f).slot i).generation = (s.slot i).generation
    rw [State.slot_markSlots]
    split
    · exact (h _).1
    · rfl
  · refine kept.free i ?_
    change ((s.markSlots which f).slot i).state = .free at free
    rw [State.slot_markSlots] at free
    split at free
    · exact (h _).2 free
    · exact free

@[simp] theorem State.placeSlot_keeps (i : Tag) : s.Keeps (s.placeSlot i) := by
  unfold State.placeSlot
  split <;> simp +contextual [State.Keeps]

@[simp] theorem State.takeCourse_keeps (i : Tag) (c : Course) : s.Keeps (s.takeCourse i c) := by
  cases c <;> simp +contextual [State.Keeps, State.takeCourse, SlotsKept.of_setSlot]

@[simp] theorem State.closeExchange_keeps (i : Tag) (c : Course) : s.Keeps (s.closeExchange i c) := by
  unfold State.closeExchange
  (repeat' split) <;> simp +contextual [State.Keeps]

/-! ### The transmit and answer registers, and the reports -/

@[simp] theorem State.emptyTransmit_keeps : s.Keeps s.emptyTransmit := by
  simp +contextual [State.Keeps, State.emptyTransmit]

@[simp] theorem State.emptyAnswer_keeps : s.Keeps s.emptyAnswer := by
  simp +contextual [State.Keeps, State.emptyAnswer]

@[simp] theorem State.placeAnswer_keeps (a : Answer) : s.Keeps (s.placeAnswer a) := by
  simp +contextual [State.Keeps, State.placeAnswer]

@[simp] theorem State.queueBeacon_keeps (p : PendingBeacon) : s.Keeps (s.queueBeacon p) := by
  unfold State.queueBeacon
  split <;> simp +contextual [State.Keeps]

@[simp] theorem State.enter_keeps (st : StationState) : s.Keeps (s.enter st) := by
  simp +contextual [State.Keeps, State.enter]

@[simp] theorem State.dropPendingBeacon_keeps : s.Keeps s.dropPendingBeacon := by
  simp +contextual [State.Keeps, State.dropPendingBeacon]

@[simp] theorem State.stopTimers_keeps : s.Keeps s.stopTimers := by simp +contextual [State.Keeps, State.stopTimers]

@[simp] theorem State.unlock_keeps : s.Keeps s.unlock := by simp +contextual [State.Keeps, State.unlock]

@[simp] theorem State.linkOff_keeps : s.Keeps s.linkOff := by simp +contextual [State.Keeps, State.linkOff]

@[simp] theorem State.withdraw_keeps (i : Tag) : s.Keeps (s.withdraw i) := by
  unfold State.withdraw
  split <;> simp +contextual [State.Keeps]

@[simp] theorem State.withdrawSegment_keeps : s.Keeps s.withdrawSegment := by
  unfold State.withdrawSegment
  split <;> simp +contextual [State.Keeps]

@[simp] theorem State.checkLeaving_keeps : s.Keeps s.checkLeaving := by
  unfold State.checkLeaving
  split <;> simp +contextual [State.Keeps]

@[simp] theorem State.isolate_keeps (k : NoticeKind) : s.Keeps (s.isolate k) := by
  simp +contextual [State.Keeps, State.isolate]

@[simp] theorem State.report_keeps (k : NoticeKind) : s.Keeps (s.report k) := by
  unfold State.report
  split <;> simp +contextual [State.Keeps]

@[simp] theorem State.noAnswer_keeps (i : Tag) : s.Keeps (s.noAnswer i) := by
  simp +contextual [State.Keeps, State.noAnswer, SlotsKept.of_setSlot]

/-! ### Peers -/

@[simp] theorem State.quietReaches_keeps (i : Tag) (level : Urgency) : s.Keeps (s.quietReaches i level) := by
  unfold State.quietReaches
  (repeat' split) <;> simp +contextual [State.Keeps]

@[simp] theorem State.endingReaches_keeps (i : Tag) (d : Deferred) : s.Keeps (s.endingReaches i d) := by
  unfold State.endingReaches
  split <;> simp +contextual [State.Keeps, SlotsKept.of_setSlot]

@[simp] theorem State.deliverTransition_keeps (d : StationNo) (before after : PeerState) :
    s.Keeps (s.deliverTransition d before after) := by
  unfold State.deliverTransition
  (repeat' split) <;> simp +contextual [State.Keeps]

@[simp] theorem State.peerBecomes_keeps (d : StationNo) (after : PeerState) : s.Keeps (s.peerBecomes d after) := by
  unfold State.peerBecomes
  dsimp only
  split <;> simp +contextual [State.Keeps]

@[simp] theorem State.hearFrame_keeps (d : StationNo) : s.Keeps (s.hearFrame d) := by
  unfold State.hearFrame
  split <;> simp +contextual [State.Keeps]

@[simp] theorem State.hearBeacon_keeps (b : Beacon) : s.Keeps (s.hearBeacon b) := by
  unfold State.hearBeacon
  dsimp only
  (repeat' split) <;> simp +contextual [State.Keeps]

@[simp] theorem State.silenceOne_keeps : s.Keeps s.silenceOne := by
  unfold State.silenceOne
  split <;> simp +contextual [State.Keeps]

@[simp] theorem State.silenceAll_keeps (n : Nat) : s.Keeps (State.silenceAll n s) := by
  induction n generalizing s with
  | zero => simp [State.Keeps, State.silenceAll]
  | succ n ih =>
    unfold State.silenceAll
    split <;> simp +contextual [State.Keeps, ih]

/-! ### What is due -/

@[simp] theorem State.takeDueFault_keeps : s.Keeps s.takeDueFault := by
  unfold State.takeDueFault
  split <;> simp +contextual [State.Keeps]

@[simp] theorem State.ageFrame_keeps : s.Keeps s.ageFrame := by simp +contextual [State.Keeps, State.ageFrame]

@[simp] theorem State.takeDueAgeing_keeps : s.Keeps s.takeDueAgeing := by
  unfold State.takeDueAgeing
  split <;> simp +contextual [State.Keeps]

@[simp] theorem State.takeDueAnswer_keeps : s.Keeps s.takeDueAnswer := by
  unfold State.takeDueAnswer
  (repeat' split) <;> simp +contextual [State.Keeps]

@[simp] theorem State.takeDue_keeps : s.Keeps s.takeDue :=
  (s.silenceAll_keeps 32).trans
    ((State.takeDueFault_keeps _).trans ((State.takeDueAgeing_keeps _).trans (State.takeDueAnswer_keeps _)))

/-! ### The responder and the target bus unit -/

@[simp] theorem State.answerBusy_keeps (g : Segment) : s.Keeps (s.answerBusy g) := by
  simp +contextual [State.Keeps, State.answerBusy]

@[simp] theorem State.answerRefused_keeps (g : Segment) (c : Cause) : s.Keeps (s.answerRefused g c) := by
  simp +contextual [State.Keeps, State.answerRefused]

@[simp] theorem State.takeAdmitted_keeps (g : Segment) (e : Option EntryNo) (w : EntryNo) (len : Nat) :
    s.Keeps (s.takeAdmitted g e w len) := by
  unfold State.takeAdmitted
  (repeat' split) <;> simp +contextual [State.Keeps]

@[simp] theorem State.treatAsNew_keeps (g : Segment) (e : Option EntryNo) : s.Keeps (s.treatAsNew g e) := by
  unfold State.treatAsNew
  (repeat' split) <;> simp +contextual [State.Keeps]

@[simp] theorem State.answerStored_keeps (j : EntryNo) (r : RunResult) : s.Keeps (s.answerStored j r) := by
  simp +contextual [State.Keeps, State.answerStored]

@[simp] theorem State.serveRepeat_keeps (g : Segment) (j : EntryNo) : s.Keeps (s.serveRepeat g j) := by
  unfold State.serveRepeat
  dsimp only
  (repeat' split) <;> simp +contextual [State.Keeps]

@[simp] theorem State.supersede_keeps (g : Segment) (j : EntryNo) : s.Keeps (s.supersede g j) := by
  unfold State.supersede
  split <;> simp +contextual [State.Keeps]

@[simp] theorem State.serveUnknown_keeps (g : Segment) : s.Keeps (s.serveUnknown g) := by
  unfold State.serveUnknown
  (repeat' split) <;> simp +contextual [State.Keeps]

@[simp] theorem State.lookup_keeps (g : Segment) : s.Keeps (s.lookup g) := by
  unfold State.lookup
  dsimp only
  (repeat' split) <;> simp +contextual [State.Keeps]

@[simp] theorem State.wakeReport_keeps (g : Segment) : s.Keeps (s.wakeReport g) := by
  simp +contextual [State.Keeps, State.wakeReport]

@[simp] theorem State.deliverSegment_keeps (g : Segment) : s.Keeps (s.deliverSegment g) := by
  unfold State.deliverSegment
  (repeat' split) <;> simp +contextual [State.Keeps]

@[simp] theorem State.endReservation_keeps : s.Keeps s.endReservation := by
  simp +contextual [State.Keeps, State.endReservation]

@[simp] theorem State.cyclesEnd_keeps (j : EntryNo) (r : RunResult) : s.Keeps (s.cyclesEnd j r) := by
  unfold State.cyclesEnd
  dsimp only
  (repeat' split) <;> simp +contextual [State.Keeps]

@[simp] theorem State.endRun_keeps (j : EntryNo) (r : RunResult) : s.Keeps (s.endRun j r) := by
  simp +contextual [State.Keeps, State.endRun]

@[simp] theorem State.failRun_keeps (j : EntryNo) (cause : Cause) : s.Keeps (s.failRun j cause) := by
  simp +contextual [State.Keeps, State.failRun]

@[simp] theorem State.takeAcknowledge_keeps (j : EntryNo) (h : HeldWindow) (y : Cycle) (w : Nat) (data : BitVec 32) :
    s.Keeps (s.takeAcknowledge j h y w data) := by
  unfold State.takeAcknowledge
  dsimp only
  split <;> simp +contextual [State.Keeps]

@[simp] theorem State.takeRetry_keeps (j : EntryNo) : s.Keeps (s.takeRetry j) := by
  unfold State.takeRetry
  split <;> simp +contextual [State.Keeps]

/-! ### The station controller -/

@[simp] theorem State.joinSpan_keeps : s.Keeps s.joinSpan := by simp +contextual [State.Keeps, State.joinSpan]

@[simp] theorem State.startLeaving_keeps : s.Keeps s.startLeaving := by
  unfold State.startLeaving
  dsimp only
  split <;> simp +contextual [State.Keeps]

@[simp] theorem State.endLeaving_keeps : s.Keeps s.endLeaving := by simp +contextual [State.Keeps, State.endLeaving]

@[simp] theorem State.endListening_keeps : s.Keeps s.endListening := by
  simp +contextual [State.Keeps, State.endListening]

@[simp] theorem State.tickEffect_keeps : s.Keeps s.tickEffect := by
  unfold State.tickEffect
  (repeat' split) <;> simp +contextual [State.Keeps]

/-! ### The link unit -/

@[simp] theorem State.loadFrame_keeps (f : TxFrame) (u : Urgency) : s.Keeps (s.loadFrame f u) := by
  simp +contextual [State.Keeps, State.loadFrame]

@[simp] theorem State.loadSlot_keeps (i : Tag) : s.Keeps (s.loadSlot i) :=
  ⟨rfl, rfl, fun _ kept => SlotsKept.of_setSlot kept rfl fun free => by cases free⟩

@[simp] theorem State.enterContention_keeps (b : Bool) : s.Keeps (s.enterContention b) := by
  simp +contextual [State.Keeps, State.enterContention]

@[simp] theorem State.enterGap_keeps (k : GapKind) : s.Keeps (s.enterGap k) := by
  simp +contextual [State.Keeps, State.enterGap]

@[simp] theorem State.enterReserved_keeps : s.Keeps s.enterReserved := by
  simp +contextual [State.Keeps, State.enterReserved]

@[simp] theorem State.clearFaults_keeps : s.Keeps s.clearFaults := by
  simp +contextual [State.Keeps, State.clearFaults]

@[simp] theorem State.beaconSent_keeps (b : OwnBeacon) : s.Keeps (s.beaconSent b) := by
  unfold State.beaconSent
  split <;> simp +contextual [State.Keeps]

@[simp] theorem State.countFault_keeps (k : Layout) : s.Keeps (s.countFault k) := by
  simp +contextual [State.Keeps, State.countFault]

@[simp] theorem State.beaconAbandoned_keeps (b : OwnBeacon) : s.Keeps (s.beaconAbandoned b) := by
  unfold State.beaconAbandoned
  split <;> simp +contextual [State.Keeps]

@[simp] theorem State.endHeard_keeps (b : Bool) : s.Keeps (s.endHeard b) := by
  unfold State.endHeard
  (repeat' split) <;> simp +contextual [State.Keeps]

@[simp] theorem State.countBadFrame_keeps : s.Keeps s.countBadFrame := by
  simp +contextual [State.Keeps, State.countBadFrame]

@[simp] theorem State.endTail_keeps : s.Keeps s.endTail := by simp +contextual [State.Keeps, State.endTail]

@[simp] theorem State.applyTaken_keeps (i : Tag) (a : Answer) : s.Keeps (s.applyTaken i a) := by
  unfold State.applyTaken
  dsimp only
  refine State.Keeps.trans ?_ (State.closeExchange_keeps _ i .advance)
  split <;> exact ⟨rfl, rfl, fun _ kept => SlotsKept.of_setSlot kept rfl id⟩

@[simp] theorem State.applyAnswer_keeps (i : Tag) (a : Answer) : s.Keeps (s.applyAnswer i a) := by
  unfold State.applyAnswer
  split <;>
    simp +contextual [State.Keeps, State.applyHeld, State.applyBusy, State.applyRefused, SlotsKept.of_setSlot]

@[simp] theorem State.deliverAnswer_keeps (a : Answer) : s.Keeps (s.deliverAnswer a) := by
  unfold State.deliverAnswer
  (repeat' split) <;> simp +contextual [State.Keeps]

@[simp] theorem State.deliverFrame_keeps (f : Frame) (b : Bool) : s.Keeps (s.deliverFrame f b) := by
  unfold State.deliverFrame
  dsimp only
  (repeat' split) <;> simp +contextual [State.Keeps]

@[simp] theorem State.receive_keeps (h : Heard) : s.Keeps (s.receive h) := by
  unfold State.receive
  (repeat' split) <;> simp +contextual [State.Keeps]

end Sys2Proof.Machine
end

section
/-! What each command changes: what the obligation allows it, and nothing else. -/

namespace Sys2Proof.Machine

/-- The registers a register write stores: the descriptor-build registers, the page and the enables. -/
def HostPort.registers (h : HostPort) : DescriptorBuild × BitVec 6 × Bool × Bool :=
  (h.build, h.page, h.completionEnable, h.noticeEnable)

/-- `c` changes nothing that only other commands change. The two queues are left out: `exec_keepsQueues` says what becomes of them. -/
structure ChangesOnlyItsOwn (c : Instr) (s t : State) : Prop where
  own           : t.own = s.own
  rate          : t.link.rate = s.link.rate
  configuration : (∀ a d l, c ≠ .configurationWrite a d l) ∨ s.controller.station ≠ .offline →
    t.controller.parameters = s.controller.parameters ∧ t.windows = s.windows
  staging       : (∀ a d l, c ≠ .stagingWrite a d l) → (∀ f, c ≠ .frameReceived f) → t.staging = s.staging
  registers     : (∀ a d l, c ≠ .registerWrite a d l) → t.hostPort.registers = s.hostPort.registers
  free          : c ≠ .slotCompletionWrite → c ≠ .softReset →
    ∀ i : Tag, (t.slot i).state = .free → (s.slot i).state = .free
  generation    : c ≠ .dispatch → c ≠ .softReset → ∀ i : Tag, (t.slot i).generation = (s.slot i).generation

/-- What a command leaves that resets nothing, neither fills nor empties a slot, and stores no parameter or window. -/
structure KeepsSettings (c : Instr) (s t : State) : Prop where
  keeps     : s.Keeps t
  windows   : t.windows = s.windows
  staging   : (∀ a d l, c ≠ .stagingWrite a d l) → (∀ f, c ≠ .frameReceived f) → t.staging = s.staging
  registers : (∀ a d l, c ≠ .registerWrite a d l) → t.hostPort.registers = s.hostPort.registers

variable {c : Instr} {s t : State}

theorem KeepsSettings.refl (c : Instr) (s : State) : KeepsSettings c s s :=
  ⟨⟨rfl, rfl, fun _ => id⟩, rfl, fun _ _ => rfl, fun _ => rfl⟩

theorem KeepsSettings.changesOnlyItsOwn (k : KeepsSettings c s t) : ChangesOnlyItsOwn c s t := by
  obtain ⟨fixed, rate, slots⟩ := k.keeps
  obtain ⟨own, parameters⟩ := Prod.mk.inj fixed
  have slots := slots _ (SlotsKept.refl s.requester)
  exact ⟨own, rate, fun _ => ⟨parameters, k.windows⟩, k.staging, k.registers, fun _ _ => slots.free,
    fun _ _ => slots.generation⟩

theorem ChangesOnlyItsOwn.refl (c : Instr) (s : State) : ChangesOnlyItsOwn c s s :=
  (KeepsSettings.refl c s).changesOnlyItsOwn

/-- A host access keeps the settings when its effect does. -/
theorem State.hostTakes_keepsSettings {u : State} (k : KeepsSettings c s t) (e : s.hostTakes t = .next u) :
    KeepsSettings c s u := by
  rcases State.hostTakes_cases e with ⟨-, rfl⟩ | ⟨-, rfl⟩
  · exact k
  · exact KeepsSettings.refl c _

@[simp] theorem HostPort.registers_mk (reset : Bool) (result : CommandResult) (page : BitVec 6) (index : StationNo)
    (build : DescriptorBuild) (completion notice locked : Bool) (status : Option StatusItems)
    (peer : Option PeerRecord) :
    HostPort.registers
      { resetAsserted := reset, result := result, page := page, peerIndex := index, build := build,
        completionEnable := completion, noticeEnable := notice, configLocked := locked, statusCapture := status,
        peerCapture := peer } = (build, page, completion, notice) := rfl

@[simp] theorem HostPort.registers_self (h : HostPort) :
    (h.build, h.page, h.completionEnable, h.noticeEnable) = h.registers := rfl

@[simp] theorem State.withResult_registers (s : State) (r : CommandResult) :
    (s.withResult r).hostPort.registers = s.hostPort.registers := rfl

/-- A slot whose SEGMENT has been sent in full is AWAITING. -/
theorem State.slotSent_keeps (s : State) (i : Tag) :
    s.Keeps (s.clearFaults.emptyTransmit.enterReserved.setSlot i ((s.slot i).sent s.aw)) :=
  ⟨rfl, rfl, fun _ kept => SlotsKept.of_setSlot kept rfl fun free => by cases free⟩

/-! ### The commands one by one -/

/-- The commands that reset, fill or empty a slot, or store a parameter or a window. -/
def changesSettings : Instr → Bool
  | .softReset | .coldReset _ _ | .dispatch | .slotCompletionWrite | .configurationWrite _ _ _ => true
  | _ => false

/-- Every other command keeps the settings, staging memory and the host's registers apart where it stores there. -/
theorem exec_keepsSettings (hc : changesSettings c = false) (e : exec c s = .next t) : KeepsSettings c s t := by
  cases c with
  | softReset | coldReset | dispatch | slotCompletionWrite | configurationWrite => simp [changesSettings] at hc
  | push | popCompletion | popNotice | join | leave | quiet | wake | abortAll | clearFlags | unassignedCommandCode
  | stagingWrite | peerIndexWrite | registerWrite | statusCapture | completionHeadCapture | noticeHeadCapture
  | peerRecordCapture =>
    refine State.hostTakes_keepsSettings ?_ e
    (repeat' split) <;> constructor <;> simp +contextual [State.Keeps, State.quietSlots]
  | abort arg =>
    refine State.hostTakes_keepsSettings ?_ e
    unfold State.abortSlot
    (repeat' split) <;> constructor <;> simp +contextual [State.Keeps, SlotsKept.of_setSlot]
  | directCompletion =>
    cases e
    (repeat' split) <;> constructor <;> simp +contextual [State.Keeps, State.completeHead]
  | transmitRegisterLoad | frameStart | contentionLost | urgencyAgeing | transmissionBegins | linkFault
  | answerTransmissionStart | reservationTimeout | answerTimerExpiry | idleGapElapsed | backoffExpiry
  | dominantBitFromAnotherStation | frameAbandoned | frameReceived =>
    cases e
    (repeat' split) <;> constructor <;> simp +contextual [State.Keeps]
  | frameSentInFull =>
    cases e
    (repeat' split) <;> constructor <;> simp +contextual [State.Keeps, State.slotSent_keeps]
  | contextLifetimeExpiry | listenTimerExpiry | beaconPeriodTick | silenceCountExpiry | targetBusArbiter
  | terminationWithdrawn | targetMonitorExpiry =>
    cases e
    (repeat' split) <;> constructor <;> simp +contextual [State.Keeps]
  | holdPointExpiry =>
    cases e
    dsimp only
    (repeat' split) <;> constructor <;> simp +contextual [State.Keeps]
  | targetTermination signals =>
    cases e
    split
    · rename_i k _ _ _ _ _
      cases k <;> constructor <;> simp +contextual [State.Keeps, State.actOn]
    · exact KeepsSettings.refl _ s

/-- A soft reset frees the slots; the configuration, staging memory and the registers stay. -/
theorem execSoftReset_changesOnlyItsOwn (e : execSoftReset s = .next t) : ChangesOnlyItsOwn .softReset s t := by
  rcases State.hostTakes_cases e with ⟨-, rfl⟩ | ⟨-, rfl⟩
  · exact ⟨rfl, rfl, fun _ => ⟨rfl, rfl⟩, fun _ _ => rfl, fun _ => rfl, fun _ h => absurd rfl h,
      fun _ h => absurd rfl h⟩
  · exact ChangesOnlyItsOwn.refl _ _

/-- A dispatch fills its slot and frees none. -/
theorem State.dispatchInto_free (d : Descriptor) (rest : List Descriptor) (i : Tag) {j : Tag}
    (free : ((s.dispatchInto d rest i).slot j).state = .free) : (s.slot j).state = .free := by
  have moved : ((s.moved d rest i).slot j).state = .free := by
    rw [State.dispatchInto_eq] at free
    split at free
    · exact free
    · obtain ⟨-, -, slots⟩ := (s.moved d rest i).placeSlot_keeps i
      exact (slots _ (SlotsKept.refl _)).free j free
  rw [State.moved_slot] at moved
  split at moved
  · cases moved
  · exact moved

theorem execDispatch_changesOnlyItsOwn (e : execDispatch s = .next t) : ChangesOnlyItsOwn .dispatch s t := by
  cases e
  split
  · rename_i d rest i _
    exact ⟨by simp [State.own], by simp, fun _ => by simp, fun _ _ => by simp, fun _ => by simp,
      fun _ _ j => State.dispatchInto_free d rest i, fun h => absurd rfl h⟩
  · exact ChangesOnlyItsOwn.refl _ _

/-- The slot freed with its record keeps its generation (R21, R43). -/
theorem State.completeSlot_generation (s : State) (i j : Tag) :
    ((s.completeSlot i).slot j).generation = (s.slot j).generation := by
  unfold State.completeSlot
  split
  · rw [State.slot_setSlot]
    split
    · subst j
      rfl
    · rfl
  · rfl

theorem execSlotCompletionWrite_changesOnlyItsOwn (e : execSlotCompletionWrite s = .next t) :
    ChangesOnlyItsOwn .slotCompletionWrite s t := by
  cases e
  (repeat' split)
  · rename_i i _
    exact ⟨by simp [State.own], by simp, fun _ => by simp, fun _ _ => by simp, fun _ => by simp,
      fun h => absurd rfl h, fun _ _ => s.completeSlot_generation i⟩
  · exact ChangesOnlyItsOwn.refl _ _
  · exact ChangesOnlyItsOwn.refl _ _

/-- A configuration write stores in OFFLINE only. -/
theorem execConfigurationWrite_changesOnlyItsOwn {a : Byte} {v : Word} {l : Lanes}
    (e : execConfigurationWrite a v l s = .next t) : ChangesOnlyItsOwn (.configurationWrite a v l) s t := by
  rcases State.hostTakes_cases e with ⟨-, rfl⟩ | ⟨-, rfl⟩
  · split
    · split
      · rename_i offline
        rw [State.storeConfiguration_frame]
        exact ⟨rfl, rfl, fun h => h.elim (fun h => absurd rfl (h a v l)) (fun h => absurd offline h), fun _ _ => rfl,
          fun _ => rfl, fun _ _ _ => id, fun _ _ _ => rfl⟩
      · exact KeepsSettings.changesOnlyItsOwn
          ⟨⟨rfl, rfl, fun _ => id⟩, rfl, fun _ _ => rfl, fun _ => rfl⟩
    · exact ChangesOnlyItsOwn.refl _ _
  · exact ChangesOnlyItsOwn.refl _ _

theorem exec_changesOnlyItsOwn (cold : ∀ straps held, c ≠ .coldReset straps held) (e : exec c s = .next t) :
    ChangesOnlyItsOwn c s t := by
  cases hc : changesSettings c with
  | false => exact (exec_keepsSettings hc e).changesOnlyItsOwn
  | true =>
    cases c with
    | softReset => exact execSoftReset_changesOnlyItsOwn e
    | coldReset straps held => exact absurd rfl (cold straps held)
    | dispatch => exact execDispatch_changesOnlyItsOwn e
    | slotCompletionWrite => exact execSlotCompletionWrite_changesOnlyItsOwn e
    | configurationWrite a v l => exact execConfigurationWrite_changesOnlyItsOwn e
    | _ => cases hc

/-! ### The two queues -/

theorem execPopCompletion_requestQueue (e : execPopCompletion s = .next t) :
    t.requester.queue = s.requester.queue := by
  rcases State.hostTakes_cases e with ⟨-, rfl⟩ | ⟨-, rfl⟩
  · split <;> rfl
  · rfl

theorem execAbortAll_requestQueue (e : execAbortAll s = .next t) :
    t.requester.queue = s.requester.queue := by
  rcases State.hostTakes_cases e with ⟨-, rfl⟩ | ⟨-, rfl⟩
  · simp [State.endSlots, State.markSlots]
  · rfl

theorem execAbortAll_records (e : execAbortAll s = .next t) :
    t.completions.records = s.completions.records := by
  rcases State.hostTakes_cases e with ⟨-, rfl⟩ | ⟨-, rfl⟩
  · simp
  · rfl

theorem execSlotCompletionWrite_requestQueue (e : execSlotCompletionWrite s = .next t) :
    t.requester.queue = s.requester.queue := by
  cases e
  unfold State.completeSlot
  (repeat' split) <;> rfl

theorem execPush_records (e : execPush s = .next t) : t.completions.records = s.completions.records := by
  rcases State.hostTakes_cases e with ⟨-, rfl⟩ | ⟨-, rfl⟩
  · (repeat' split) <;> rfl
  · rfl

theorem execDispatch_records (e : execDispatch s = .next t) : t.completions.records = s.completions.records := by
  cases e
  split <;> simp

/-- The request queue is moved by PUSH, a dispatch, a direct completion and the resets (R4). -/
theorem exec_requestQueue (cold : ∀ straps held, c ≠ .coldReset straps held) (e : exec c s = .next t)
    (push : c ≠ .push) (dispatch : c ≠ .dispatch) (direct : c ≠ .directCompletion) (soft : c ≠ .softReset) :
    t.requester.queue = s.requester.queue := by
  cases hc : movesQueues c with
  | false => exact congrArg Prod.fst (exec_keepsQueues hc e).held
  | true =>
    cases c with
    | popCompletion => exact execPopCompletion_requestQueue e
    | abortAll => exact execAbortAll_requestQueue e
    | slotCompletionWrite => exact execSlotCompletionWrite_requestQueue e
    | coldReset straps held => exact absurd rfl (cold straps held)
    | push | dispatch | directCompletion | softReset => contradiction
    | _ => cases hc

/-- The records are moved by the arbiter's two writes, POP-COMPLETION and the resets (R177). -/
theorem exec_records (cold : ∀ straps held, c ≠ .coldReset straps held) (e : exec c s = .next t)
    (pop : c ≠ .popCompletion) (slot : c ≠ .slotCompletionWrite) (direct : c ≠ .directCompletion)
    (soft : c ≠ .softReset) : t.completions.records = s.completions.records := by
  cases hc : movesQueues c with
  | false => exact (exec_keepsQueues hc e).records
  | true =>
    cases c with
    | push => exact execPush_records e
    | abortAll => exact execAbortAll_records e
    | dispatch => exact execDispatch_records e
    | coldReset straps held => exact absurd rfl (cold straps held)
    | popCompletion | slotCompletionWrite | directCompletion | softReset => contradiction
    | _ => cases hc

/-- Settles O4: of the 47 commands other than a cold reset 43 keep the settings, and the other four change only what is theirs. -/
theorem onlyTheseCommandsChangeIt : Obligations.OnlyTheseCommandsChangeIt := by
  intro c s t e cold
  have k := exec_changesOnlyItsOwn cold e
  refine ⟨k.own, k.rate, k.configuration, exec_requestQueue cold e, exec_records cold e, k.staging, fun h => ?_, k.free,
    k.generation⟩
  simpa only [HostPort.registers, Prod.mk.injEq] using k.registers h

end Sys2Proof.Machine
end

end

section

/-! SUPPORT. Station life: what LEAVE does in each station state it does not start the leaving sequence in, and the proof of its
statement. As above, the proofs are elaborated one after another. -/

set_option Elab.async false

section
/-! LEAVE by the station state: where it returns to OFFLINE at once, and where it is refused. -/

namespace Sys2Proof.Machine

variable {s : State}

theorem execLeave_of_listening (released : s.hostPort.resetAsserted = false)
    (listening : s.controller.station = .listening) :
    execLeave s = .next ((s.linkOff.stopTimers.clearPeers.unlock.enter .offline).withResult .accepted) := by
  rw [execLeave, State.hostTakes_of_released released, listening]

theorem execLeave_of_isolated (released : s.hostPort.resetAsserted = false)
    (isolated : s.controller.station = .isolated) :
    execLeave s = .next ((s.unlock.enter .offline).withResult .accepted) := by
  rw [execLeave, State.hostTakes_of_released released, isolated]

theorem execLeave_of_refused (released : s.hostPort.resetAsserted = false)
    (refused : s.controller.station = .offline ∨ s.controller.station = .leaving) :
    execLeave s = .next (s.withResult .refusedState) := by
  rw [execLeave, State.hostTakes_of_released released]
  rcases refused with offline | leaving
  · rw [offline]
  · rw [leaving]

/-- Settles O9: LEAVE is the chain of operations its rule names, and with the blocks of the state taken apart the chain computes to
the update stated. -/
theorem leaveReturnsToOffline : Obligations.LeaveReturnsToOffline := by
  refine fun s released => ⟨fun listening => ?_, fun isolated => ?_, execLeave_of_refused released⟩
  · refine (execLeave_of_listening released listening).trans ?_
    cases s
    rfl
  · exact execLeave_of_isolated released isolated

end Sys2Proof.Machine
end

end

section

/-! SUPPORT. Completions and notices: what the two pops do by the queue they find, the terms of HINT, what a soft reset leaves of its
enables, and the proofs of the two statements. As above, the proofs are elaborated one after another. -/

set_option Elab.async false

section
/-! The pops by the queue they find: the head leaves, or the pop is refused. -/

namespace Sys2Proof.Machine

variable {s : State}

/-- POP-COMPLETION on a record drops it, its share of the notify count, and the capture (R180, R181). -/
theorem execPopCompletion_of_cons {r : CompletionRecord} {rest : List CompletionRecord}
    (released : s.hostPort.resetAsserted = false) (head : s.completions.records = r :: rest) :
    execPopCompletion s = .next
      { s with
        completions :=
          { records := rest
            notifyCount := if r.notify then s.completions.notifyCount - 1 else s.completions.notifyCount
            capture := none }
        hostPort := { s.hostPort with result := .accepted } } := by
  rw [execPopCompletion, State.hostTakes_of_released released, head]
  rfl

theorem execPopCompletion_of_nil (released : s.hostPort.resetAsserted = false) (empty : s.completions.records = []) :
    execPopCompletion s = .next (s.withResult .refusedEmpty) := by
  rw [execPopCompletion, State.hostTakes_of_released released, empty]

/-- POP-NOTICE on a notice drops it and the capture, and leaves NOTICES-LOST (R184). -/
theorem execPopNotice_of_cons {n : Notice} {rest : List Notice}
    (released : s.hostPort.resetAsserted = false) (head : s.notices.records = n :: rest) :
    execPopNotice s = .next
      { s with
        notices := { records := rest, lost := s.notices.lost, capture := none }
        hostPort := { s.hostPort with result := .accepted } } := by
  rw [execPopNotice, State.hostTakes_of_released released, head]
  rfl

theorem execPopNotice_of_nil (released : s.hostPort.resetAsserted = false) (empty : s.notices.records = []) :
    execPopNotice s = .next (s.withResult .refusedEmpty) := by
  rw [execPopNotice, State.hostTakes_of_released released, empty]

/-- Settles O6: each queue either has a head, which the pop removes, or is empty, and the pop is refused. -/
theorem popsRemoveTheHead : Obligations.PopsRemoveTheHead := fun _ released =>
  ⟨fun _ _ => execPopCompletion_of_cons released, execPopCompletion_of_nil released,
    fun _ _ => execPopNotice_of_cons released, execPopNotice_of_nil released⟩

end Sys2Proof.Machine
end

section
/-! HINT: its terms, and its enables across a soft reset. -/

namespace Sys2Proof.Machine

variable {s t : State}

/-- The three terms of R185. -/
theorem State.hint_iff :
    s.hint = true ↔
      (s.hostPort.completionEnable = true ∧ 0 < s.completions.notifyCount) ∨
        (s.hostPort.noticeEnable = true ∧ s.notices.records ≠ []) ∨
        (s.hostPort.noticeEnable = true ∧ s.notices.lost = true) := by
  simp [State.hint, or_assoc]

/-- A soft reset leaves both enables, taken or lost to an asserted RESETN (R185, R189). -/
theorem execSoftReset_enables (e : execSoftReset s = .next t) :
    t.hostPort.completionEnable = s.hostPort.completionEnable ∧ t.hostPort.noticeEnable = s.hostPort.noticeEnable := by
  rcases State.hostTakes_cases e with ⟨-, rfl⟩ | ⟨-, rfl⟩
  · exact ⟨rfl, rfl⟩
  · exact ⟨rfl, rfl⟩

/-- Settles O20: the enables are one register, which a cold reset clears together with the queues the terms look at. -/
theorem hintFollowsItsTerms : Obligations.HintFollowsItsTerms := fun _ =>
  ⟨State.hint_iff, fun v l released => execRegisterWrite_enables (a := 0x06) v l released rfl,
    fun _ _ => ⟨_, rfl, rfl, rfl, State.hint_of_reset rfl rfl⟩,
    ⟨_, rfl, execSoftReset_enables rfl⟩⟩

end Sys2Proof.Machine
end

end

section

/-! SUPPORT. The block as a whole: what a step does by the queue of waiting commands it finds, that no command changes that queue, and
the proofs of the three statements. As above, the proofs are elaborated one after another. -/

set_option Elab.async false

section
/-! A step by the queue it finds: the front command runs with the rest of the queue, and an empty queue idles. -/

namespace Sys2Proof.Machine

variable {s : State}

theorem step_of_cons {c : Instr} {rest : List Instr} (waiting : s.pending = c :: rest) :
    step s = exec c (s.setPending rest) := by
  rw [step, waiting]

theorem step_of_nil (empty : s.pending = []) : step s = .next s := by
  rw [step, empty]

/-- Settles O1: the step replaces the queue, and the rest of the state is the one given. -/
theorem stepRunsTheFrontCommand : Obligations.StepRunsTheFrontCommand := fun _ _ _ => step_of_cons rfl

/-- Settles O2: the queue given is the empty one. -/
theorem stepIdlesWithNoCommand : Obligations.StepIdlesWithNoCommand := fun _ => step_of_nil

end Sys2Proof.Machine
end

section
/-! The queue of waiting commands across a command. The operations' own lemmas say that each keeps the queue; the four below had none. -/

namespace Sys2Proof.Machine

variable {c : Instr} {s t : State}

@[simp] theorem State.quietSlots_pending (s : State) : s.quietSlots.pending = s.pending := by
  simp [State.quietSlots]

@[simp] theorem State.abortSlot_pending (s : State) (i : Tag) : (s.abortSlot i).pending = s.pending := by
  unfold State.abortSlot
  (repeat' split) <;> simp

@[simp] theorem State.storeConfiguration_pending (s : State) (r : HostRegister) (v : Word) (l : Lanes) :
    (s.storeConfiguration r v l).pending = s.pending := by
  rw [State.storeConfiguration_frame]

@[simp] theorem State.actOn_pending (s : State) (j : EntryNo) (h : HeldWindow) (y : Cycle) (data : BitVec 32)
    (k : TerminationKind) : (s.actOn j h y data k).pending = s.pending := by
  cases k <;> simp [State.actOn]

/-- A host access keeps the queue when its effect does: the state it meets with RESETN asserted has that queue too. -/
theorem State.hostTakes_pending {u : State} (kept : t.pending = s.pending) (e : s.hostTakes t = .next u) :
    u.pending = s.pending := by
  rcases State.hostTakes_cases e with ⟨-, rfl⟩ | ⟨-, rfl⟩
  · exact kept
  · rfl

/-- Every command keeps the queue: a host access by its effect, a reset by the queue its state is built with, and an event by the
operations it calls, whichever of its branches is taken. -/
theorem exec_pending (e : exec c s = .next t) : t.pending = s.pending := by
  cases c with
  | push | popCompletion | popNotice | join | leave | quiet | wake | abort | abortAll | clearFlags
  | unassignedCommandCode | configurationWrite | stagingWrite | peerIndexWrite | registerWrite | statusCapture
  | completionHeadCapture | noticeHeadCapture | peerRecordCapture =>
    refine State.hostTakes_pending ?_ e
    (repeat' split) <;> simp
  | softReset =>
    refine State.hostTakes_pending ?_ e
    rfl
  | coldReset =>
    cases e
    rfl
  | holdPointExpiry =>
    cases e
    dsimp only
    (repeat' split) <;> simp
  | dispatch | slotCompletionWrite | directCompletion | transmitRegisterLoad | answerTimerExpiry | backoffExpiry
  | frameStart | contentionLost | urgencyAgeing | transmissionBegins | frameSentInFull | frameAbandoned | linkFault
  | frameReceived | answerTransmissionStart | reservationTimeout | idleGapElapsed | dominantBitFromAnotherStation
  | contextLifetimeExpiry | listenTimerExpiry | beaconPeriodTick | silenceCountExpiry | targetBusArbiter
  | targetTermination | terminationWithdrawn | targetMonitorExpiry =>
    cases e
    (repeat' split) <;> simp

/-- Settles O3: all 48 commands keep the queue, the two resets among them. -/
theorem commandsLeaveTheQueue : Obligations.CommandsLeaveTheQueue := fun _ _ _ => exec_pending

end Sys2Proof.Machine
end

end

section

/-! SUPPORT. Exchanges and contexts: what each operation leaves of the part a slot has in an exchange and of the part an entry has in the context
table, that a station that may not send is silent, and the proof of their statement. As above, the proofs are elaborated one after
another, within the memory of one process. -/

set_option Elab.async false

section
/-! The exchanges: what each operation over slots leaves of the part each slot has in an exchange, and that the exchanges stay
consistent with the transmit register. -/

namespace Sys2Proof.Machine

/-! ### The part of a slot in an exchange -/

/-- The part a slot has in an exchange: its segment is loaded, or its answer is awaited. -/
inductive Engagement where
  | none
  | contending
  | awaiting

/-- The part a slot's state gives it. -/
def SlotState.engagement : SlotState → Engagement
  | .contending => .contending
  | .awaiting _ => .awaiting
  | _ => .none

/-- The parts of the eight slots. -/
def Requester.engagement (r : Requester) : Tag → Engagement := fun i => r.slots[i].state.engagement

/-- The slot whose segment a transmit register holds. -/
def loadedBy : Option TxFrame → Option Tag
  | some (.segment i _) => some i
  | _ => none

/-- The exchanges are consistent with the slot whose segment is loaded: `exchangesKept` over the parts of the slots. -/
def Exchanges (e : Tag → Engagement) (loaded : Option Tag) : Prop :=
  (∀ i, e i = .contending ↔ loaded = some i) ∧ (∀ i j, e i = .awaiting → e j = .awaiting → i = j) ∧
    ∀ i j, e i = .awaiting → e j ≠ .contending

theorem SlotState.engagement_eq_contending_iff {x : SlotState} : x.engagement = .contending ↔ x = .contending := by
  cases x <;> simp [SlotState.engagement]

theorem SlotState.isContending_iff {x : SlotState} : x.isContending = true ↔ x.engagement = .contending := by
  cases x <;> simp [SlotState.isContending, SlotState.engagement]

theorem SlotState.isAwaiting_iff {x : SlotState} : x.isAwaiting = true ↔ x.engagement = .awaiting := by
  cases x <;> simp [SlotState.isAwaiting, SlotState.engagement]

theorem State.exchangesKept_iff {s : State} : s.exchangesKept ↔ Exchanges s.requester.engagement (loadedBy s.link.tx) := by
  simp only [State.exchangesKept, ← Bool.not_eq_true, SlotState.isContending_iff, SlotState.isAwaiting_iff]
  exact Iff.rfl

/-- No slot has a part in an exchange. -/
theorem Exchanges.idle : Exchanges (fun _ => .none) none := by simp [Exchanges]

/-- With nothing loaded no slot is CONTENDING. -/
theorem Exchanges.not_contending {e : Tag → Engagement} (h : Exchanges e none) (i : Tag) : e i ≠ .contending :=
  fun he => nomatch (h.1 i).1 he

/-- A slot leaves its exchange: its segment, if it was loaded, is no more, and nothing else is. -/
theorem Exchanges.release {e : Tag → Engagement} {l l' : Option Tag} (h : Exchanges e l) (i : Tag)
    (contending : e i = .contending → l' = none) (other : e i ≠ .contending → l' = l) :
    Exchanges (Function.update e i .none) l' := by
  obtain ⟨loaded, one, apart⟩ := h
  have same {j : Tag} (hj : j ≠ i) : Function.update e i .none j = e j := Function.update_of_ne hj _ _
  have ne {j : Tag} {x : Engagement} (hx : x ≠ .none) (hj : Function.update e i .none j = x) : j ≠ i := by
    rintro rfl
    exact hx (by simpa using hj.symm)
  refine ⟨fun j => ?_, fun j k hj hk => ?_, fun j k hj hk => ?_⟩
  · by_cases he : e i = .contending
    · have hl := (loaded i).1 he
      rw [contending he]
      refine iff_of_false (fun hj => ?_) (by simp)
      have hji := ne (by simp) hj
      rw [same hji, loaded, hl] at hj
      exact hji (Option.some.inj hj).symm
    · rw [other he]
      by_cases hj : j = i
      · subst hj
        simpa using fun hl => he ((loaded j).2 hl)
      · rw [same hj, loaded]
  · have hji := ne (by simp) hj
    have hki := ne (by simp) hk
    rw [same hji] at hj
    rw [same hki] at hk
    exact one j k hj hk
  · have hji := ne (by simp) hj
    have hki := ne (by simp) hk
    rw [same hji] at hj
    rw [same hki] at hk
    exact apart j k hj hk

/-- The slots that a test admits leave their exchanges, the loaded one among them exactly when its segment is withdrawn. -/
theorem Exchanges.releaseAll {e : Tag → Engagement} {l l' : Option Tag} (h : Exchanges e l) (which : Tag → Bool)
    (withdrawn : ∀ i, l = some i → which i = true → l' = none) (kept : (∀ i, l = some i → which i = false) → l' = l) :
    Exchanges (fun i => if which i then .none else e i) l' := by
  obtain ⟨loaded, one, apart⟩ := h
  have rest {i : Tag} {x : Engagement} (hx : x ≠ .none) (hi : (if which i then .none else e i) = x) :
      which i = false ∧ e i = x := by
    cases hw : which i with
    | true => rw [hw, if_pos rfl] at hi; exact absurd hi.symm hx
    | false => rw [hw] at hi; exact ⟨rfl, by simpa using hi⟩
  refine ⟨fun i => ⟨fun hi => ?_, fun hl => ?_⟩, fun i j hi hj => ?_, fun i j hi hj => ?_⟩
  · obtain ⟨hw, he⟩ := rest (by simp) hi
    have hl := (loaded i).1 he
    rw [kept fun j hj => by rwa [← Option.some.inj (hl.symm.trans hj)], hl]
  · have keep : ∀ j, l = some j → which j = false := fun j hj => by
      rw [← Bool.not_eq_true]
      intro hw
      rw [withdrawn j hj hw] at hl
      cases hl
    rw [kept keep] at hl
    simp [keep i hl, (loaded i).2 hl]
  · exact one i j (rest (by simp) hi).2 (rest (by simp) hj).2
  · exact apart i j (rest (by simp) hi).2 (rest (by simp) hj).2

/-- The parts are those of the slots, whatever the rest of the requester holds. -/
@[simp] theorem Requester.engagement_mk (r : Requester) (queue : List Descriptor) (drain seq next : Nat) (fence : Bool) :
    Requester.engagement
      { queue := queue, drainCount := drain, fenceWait := fence, dispatchSeq := seq, doneNext := next,
        slots := r.slots } = r.engagement := rfl

variable (s : State)

/-! ### Operations over slots -/

theorem State.engagement_slot (i : Tag) : s.requester.engagement i = (s.slot i).state.engagement := rfl

@[simp] theorem State.setSlot_engagement (i : Tag) (x : Slot) :
    (s.setSlot i x).requester.engagement = Function.update s.requester.engagement i x.state.engagement := by
  funext j
  by_cases h : j = i
  · subst h
    simp [State.engagement_slot]
  · simp [State.engagement_slot, State.slot_setSlot, h]

@[simp] theorem State.setSlotState_engagement (i : Tag) (st : SlotState) :
    (s.setSlotState i st).requester.engagement = Function.update s.requester.engagement i st.engagement := by
  simp [State.setSlotState]

@[simp] theorem State.finishSlot_engagement (i : Tag) (st : Status) :
    (s.finishSlot i st).requester.engagement = Function.update s.requester.engagement i .none :=
  s.setSlotState_engagement i (.done st s.requester.doneNext)

/-- The release of BEHIND slots gives none of them a part in an exchange. -/
@[simp] theorem State.releaseBehind_engagement (n : Nat) (d : StationNo) :
    (State.releaseBehind n d s).requester.engagement = s.requester.engagement := by
  induction n generalizing s with
  | zero => rfl
  | succ n ih =>
    cases active : s.destinationActive d with
    | true => rw [State.releaseBehind_of_active active]
    | false =>
      cases first : s.firstBehind d with
      | none => rw [State.releaseBehind_of_none first]
      | some j =>
        have behind : s.requester.engagement j = .none := by
          rw [State.engagement_slot, (State.firstBehind_eq_some first).1]
          rfl
        have same : Function.update s.requester.engagement j .none = s.requester.engagement := by
          rw [← behind, Function.update_eq_self]
        rw [State.releaseBehind_of_some active first]
        cases s.placementOf j with
        | ready | parked => exact (s.setSlotState_engagement j _).trans same
        | ended st => rw [ih, State.finishSlot_engagement, same]

@[simp] theorem State.endSlot_engagement (i : Tag) (st : Status) :
    (s.endSlot i st).requester.engagement = Function.update s.requester.engagement i .none := by
  simp [State.endSlot]

@[simp] theorem State.endSlots_engagement (which : Tag → Bool) (st : Status) :
    (s.endSlots which st).requester.engagement = fun i => if which i then .none else s.requester.engagement i := by
  funext i
  simp only [State.engagement_slot, State.slot_endSlots]
  split <;> rfl

/-- Marks on slots leave their parts. -/
theorem State.markSlots_engagement (which : Tag → Bool) {f : Slot → Slot} (h : ∀ x, (f x).state = x.state) :
    (s.markSlots which f).requester.engagement = s.requester.engagement := by
  funext i
  simp only [State.engagement_slot, State.slot_markSlots]
  split <;> simp [h]

@[simp] theorem State.placeSlot_engagement (i : Tag) :
    (s.placeSlot i).requester.engagement = Function.update s.requester.engagement i .none := by
  unfold State.placeSlot
  split <;> simp [SlotState.engagement]

@[simp] theorem State.takeCourse_engagement (i : Tag) (c : Course) :
    (s.takeCourse i c).requester.engagement = Function.update s.requester.engagement i .none := by
  cases c <;> simp [State.takeCourse, SlotState.engagement]

/-- The close of an exchange ends the slot's part in it. -/
@[simp] theorem State.closeExchange_engagement (i : Tag) (c : Course) :
    (s.closeExchange i c).requester.engagement = Function.update s.requester.engagement i .none := by
  unfold State.closeExchange
  (repeat' split) <;> simp

@[simp] theorem State.applyTaken_engagement (i : Tag) (a : Answer) :
    (s.applyTaken i a).requester.engagement = Function.update s.requester.engagement i .none := by
  unfold State.applyTaken
  dsimp only
  split <;> simp

@[simp] theorem State.applyAnswer_engagement (i : Tag) (a : Answer) :
    (s.applyAnswer i a).requester.engagement = Function.update s.requester.engagement i .none := by
  unfold State.applyAnswer
  split <;> simp [State.applyHeld, State.applyBusy, State.applyRefused]

end Sys2Proof.Machine
end

section
/-! The exchanges across the operations every block shares: frames put on the line, peers heard and silent, reports, answers. -/

namespace Sys2Proof.Machine

variable {s : State}

/-! ### The transmit register -/

@[simp] theorem loadedBy_none : loadedBy none = none := rfl

@[simp] theorem loadedBy_beacon (b : OwnBeacon) : loadedBy (some (.beacon b)) = none := rfl

@[simp] theorem loadedBy_segment (i : Tag) (g : Segment) : loadedBy (some (.segment i g)) = some i := rfl

@[simp] theorem State.emptyTransmit_tx (s : State) : s.emptyTransmit.link.tx = none := rfl

@[simp] theorem State.linkOff_tx (s : State) : s.linkOff.link.tx = none := rfl

@[simp] theorem State.placeAnswer_tx (s : State) (a : Answer) : (s.placeAnswer a).link.tx = s.link.tx := rfl

@[simp] theorem State.answerBusy_tx (s : State) (g : Segment) : (s.answerBusy g).link.tx = s.link.tx := rfl

@[simp] theorem State.answerRefused_tx (s : State) (g : Segment) (c : Cause) :
    (s.answerRefused g c).link.tx = s.link.tx := rfl

@[simp] theorem State.answerStored_tx (s : State) (j : EntryNo) (r : RunResult) :
    (s.answerStored j r).link.tx = s.link.tx := rfl

@[simp] theorem State.takeAdmitted_tx (s : State) (g : Segment) (e : Option EntryNo) (w : EntryNo) (len : Nat) :
    (s.takeAdmitted g e w len).link.tx = s.link.tx := by
  unfold State.takeAdmitted
  (repeat' split) <;> simp

@[simp] theorem State.treatAsNew_tx (s : State) (g : Segment) (e : Option EntryNo) :
    (s.treatAsNew g e).link.tx = s.link.tx := by
  unfold State.treatAsNew
  (repeat' split) <;> simp

@[simp] theorem State.serveRepeat_tx (s : State) (g : Segment) (j : EntryNo) :
    (s.serveRepeat g j).link.tx = s.link.tx := by
  unfold State.serveRepeat
  dsimp only
  (repeat' split) <;> simp

@[simp] theorem State.supersede_tx (s : State) (g : Segment) (j : EntryNo) : (s.supersede g j).link.tx = s.link.tx := by
  unfold State.supersede
  (repeat' split) <;> simp

@[simp] theorem State.serveUnknown_tx (s : State) (g : Segment) : (s.serveUnknown g).link.tx = s.link.tx := by
  unfold State.serveUnknown
  (repeat' split) <;> simp

@[simp] theorem State.lookup_tx (s : State) (g : Segment) : (s.lookup g).link.tx = s.link.tx := by
  unfold State.lookup
  dsimp only
  (repeat' split) <;> simp

@[simp] theorem State.cyclesEnd_tx (s : State) (j : EntryNo) (r : RunResult) :
    (s.cyclesEnd j r).link.tx = s.link.tx := by
  unfold State.cyclesEnd
  dsimp only
  (repeat' split) <;> simp

@[simp] theorem State.endReservation_tx (s : State) : s.endReservation.link.tx = s.link.tx := rfl

@[simp] theorem State.enterGap_tx (s : State) (k : GapKind) : (s.enterGap k).link.tx = s.link.tx := rfl

@[simp] theorem State.enterReserved_tx (s : State) : s.enterReserved.link.tx = s.link.tx := rfl

@[simp] theorem State.countBadFrame_tx (s : State) : s.countBadFrame.link.tx = s.link.tx := rfl

@[simp] theorem State.countFault_tx (s : State) (l : Layout) : (s.countFault l).link.tx = s.link.tx := rfl

@[simp] theorem State.clearFaults_tx (s : State) : s.clearFaults.link.tx = s.link.tx := rfl

@[simp] theorem State.emptyAnswer_tx (s : State) : s.emptyAnswer.link.tx = s.link.tx := rfl

@[simp] theorem State.enterContention_tx (s : State) (b : Bool) : (s.enterContention b).link.tx = s.link.tx := rfl

@[simp] theorem State.ageFrame_tx (s : State) : s.ageFrame.link.tx = s.link.tx := rfl

@[simp] theorem State.unlock_tx (s : State) : s.unlock.link.tx = s.link.tx := rfl

@[simp] theorem State.endHeard_tx (s : State) (reserves : Bool) : (s.endHeard reserves).link.tx = s.link.tx := by
  unfold State.endHeard
  (repeat' split) <;> simp

/-- A queued beacon takes the place of a beacon alone, so the loaded slot stays. -/
@[simp] theorem State.queueBeacon_loaded (s : State) (p : PendingBeacon) :
    loadedBy (s.queueBeacon p).link.tx = loadedBy s.link.tx := by
  unfold State.queueBeacon
  split <;> simp [*]

@[simp] theorem State.checkLeaving_loaded (s : State) : loadedBy s.checkLeaving.link.tx = loadedBy s.link.tx := by
  unfold State.checkLeaving
  split <;> simp

@[simp] theorem State.wakeReport_loaded (s : State) (g : Segment) :
    loadedBy (s.wakeReport g).link.tx = loadedBy s.link.tx := by
  simp [State.wakeReport]

@[simp] theorem State.deliverSegment_loaded (s : State) (g : Segment) :
    loadedBy (s.deliverSegment g).link.tx = loadedBy s.link.tx := by
  unfold State.deliverSegment
  (repeat' split) <;> simp

@[simp] theorem State.endRun_loaded (s : State) (j : EntryNo) (r : RunResult) :
    loadedBy (s.endRun j r).link.tx = loadedBy s.link.tx := by
  simp [State.endRun]

@[simp] theorem State.failRun_loaded (s : State) (j : EntryNo) (cause : Cause) :
    loadedBy (s.failRun j cause).link.tx = loadedBy s.link.tx := by
  simp [State.failRun]

@[simp] theorem State.actOn_loaded (s : State) (j : EntryNo) (h : HeldWindow) (y : Cycle) (data : BitVec 32)
    (k : TerminationKind) : loadedBy (s.actOn j h y data k).link.tx = loadedBy s.link.tx := by
  cases k with
  | acknowledge w => simp only [State.actOn, State.takeAcknowledge]; split <;> simp
  | retry => simp only [State.actOn, State.takeRetry]; split <;> simp
  | error => simp [State.actOn]

@[simp] theorem State.endListening_loaded (s : State) : loadedBy s.endListening.link.tx = loadedBy s.link.tx := by
  simp [State.endListening]

@[simp] theorem State.tickEffect_loaded (s : State) : loadedBy s.tickEffect.link.tx = loadedBy s.link.tx := by
  unfold State.tickEffect
  (repeat' split) <;> simp

/-! ### Slots that leave their exchange -/

/-- The exchanges of a state are consistent. -/
abbrev State.Exchanging (s : State) : Prop := Exchanges s.requester.engagement (loadedBy s.link.tx)

/-- A slot that is not CONTENDING leaves its exchange, and the transmit register stays. -/
theorem State.Exchanging.leave {i : Tag} (h : s.Exchanging) (other : s.requester.engagement i ≠ .contending) :
    Exchanges (Function.update s.requester.engagement i .none) (loadedBy s.link.tx) :=
  h.release i (fun hc => absurd hc other) fun _ => rfl

/-- A slot whose exchange is not in flight leaves it once its unbegun frame is withdrawn (R29). -/
theorem State.Exchanging.withdraw {i : Tag} (h : s.Exchanging) (waits : s.inFlight i = false) :
    Exchanges (Function.update s.requester.engagement i .none) (loadedBy (s.withdraw i).link.tx) := by
  unfold State.withdraw
  by_cases hc : (s.slot i).state.isContending = true
  · have unbegun : s.link.begun = false := by
      simp only [State.inFlight, hc, Bool.true_and, Bool.or_eq_false_iff] at waits
      exact waits.2
    rw [if_pos (by simp [hc, unbegun])]
    exact h.release i (fun _ => rfl) fun other => absurd (SlotState.isContending_iff.1 hc) other
  · rw [if_neg (by simp [hc])]
    exact h.leave fun e => hc (SlotState.isContending_iff.2 e)

/-- A transition delivered to the requester keeps the exchanges: the slot it reaches is in flight, and stays so, or leaves its
exchange. -/
@[simp] theorem State.deliverTransition_exchanging (d : StationNo) (before after : PeerState) (h : s.Exchanging) :
    (s.deliverTransition d before after).Exchanging := by
  have parked {i : Tag} (hp : (s.slot i).state.isParked = true) : (s.setSlotState i .ready).Exchanging := by
    have : s.requester.engagement i ≠ .contending := by
      rw [State.engagement_slot]
      cases hs : (s.slot i).state <;> simp [SlotState.isParked, SlotState.engagement, hs] at hp ⊢
    simpa [State.Exchanging, SlotState.engagement] using h.leave this
  have ending (i : Tag) (e : Deferred) : (s.endingReaches i e).Exchanging := by
    unfold State.endingReaches
    split
    · have : Function.update s.requester.engagement i (s.slot i).state.engagement = s.requester.engagement :=
        Function.update_eq_self _ _
      simpa [State.Exchanging, this] using h
    · rename_i waits
      simpa [State.Exchanging] using h.withdraw (by simpa using waits)
  unfold State.deliverTransition
  split
  · exact h
  · rename_i i _
    split
    · unfold State.quietReaches
      split
      · exact h
      · rename_i waits
        split
        · simpa [State.Exchanging, SlotState.engagement] using h.withdraw (by simpa using waits)
        · split
          · exact parked (by assumption)
          · exact h
    · split
      · split
        · exact parked (by assumption)
        · exact h
      · exact h
    · exact ending i _
    · exact ending i _
    · exact ending i _
    · exact h

@[simp] theorem State.peerBecomes_exchanging (d : StationNo) (after : PeerState) (h : s.Exchanging) :
    (s.peerBecomes d after).Exchanging := by
  unfold State.peerBecomes
  dsimp only
  split
  · exact h
  · exact State.deliverTransition_exchanging _ _ _ (by simpa [State.Exchanging] using h)

@[simp] theorem State.hearFrame_exchanging (d : StationNo) (h : s.Exchanging) : (s.hearFrame d).Exchanging := by
  have heard : (s.peerHeard d).Exchanging := by simpa [State.Exchanging] using h
  unfold State.hearFrame
  split
  · exact h
  · exact State.peerBecomes_exchanging _ _ heard
  · exact State.peerBecomes_exchanging _ _ heard
  all_goals exact heard

@[simp] theorem State.hearBeacon_exchanging (b : Beacon) (h : s.Exchanging) : (s.hearBeacon b).Exchanging := by
  unfold State.hearBeacon
  dsimp only
  split
  · exact h
  · split
    · exact State.peerBecomes_exchanging _ _ (by simpa [State.Exchanging] using h)
    · simpa [State.Exchanging] using h

@[simp] theorem State.silenceOne_exchanging (h : s.Exchanging) : s.silenceOne.Exchanging := by
  unfold State.silenceOne
  split
  · exact h
  · exact State.peerBecomes_exchanging _ _ h

@[simp] theorem State.silenceAll_exchanging (n : Nat) (h : s.Exchanging) : (State.silenceAll n s).Exchanging := by
  induction n generalizing s with
  | zero => exact h
  | succ n ih =>
    unfold State.silenceAll
    split
    · exact h
    · exact ih (State.silenceOne_exchanging h)

/-- Entry to ISOLATED ends every transaction and empties the transmit register. -/
@[simp] theorem State.isolate_exchanging (s : State) (k : NoticeKind) : (s.isolate k).Exchanging := by
  have idle : (s.isolate k).requester.engagement = fun _ => .none := by
    funext i
    have ended : (s.isolate k).requester = (s.endSlots s.occupied .stationIsolated).requester := rfl
    rw [ended, State.endSlots_engagement]
    by_cases busy : s.occupied i = true
    · exact if_pos busy
    · refine (if_neg busy).trans ?_
      rw [State.engagement_slot]
      cases hs : (s.slot i).state <;>
        simp [State.occupied, hs, SlotState.isFree, SlotState.isDone, SlotState.engagement] at busy ⊢
  have empty : (s.isolate k).link.tx = none := rfl
  rw [State.Exchanging, idle, empty]
  exact Exchanges.idle

@[simp] theorem State.report_exchanging (k : NoticeKind) (h : s.Exchanging) : (s.report k).Exchanging := by
  unfold State.report
  split
  · exact s.isolate_exchanging k
  · exact h

/-! ### What is due -/

theorem State.engagement_of_awaitingSlot {i : Tag} (h : s.awaitingSlot = some i) :
    s.requester.engagement i = .awaiting :=
  SlotState.isAwaiting_iff.1 (lowestOf_eq_some h).1

@[simp] theorem State.noAnswer_exchanging {i : Tag} (awaiting : s.awaitingSlot = some i) (h : s.Exchanging) :
    (s.noAnswer i).Exchanging := by
  have := h.leave (i := i) (by simp [State.engagement_of_awaitingSlot awaiting])
  simpa [State.Exchanging, State.noAnswer] using this

@[simp] theorem State.takeDue_exchanging (h : s.Exchanging) : s.takeDue.Exchanging := by
  have silence := State.silenceAll_exchanging 32 h
  have fault : (State.silenceAll 32 s).takeDueFault.Exchanging := by
    unfold State.takeDueFault
    split
    · exact State.report_exchanging _ silence
    · exact silence
  have age : (State.silenceAll 32 s).takeDueFault.takeDueAgeing.Exchanging := by
    unfold State.takeDueAgeing
    split
    · simpa [State.Exchanging] using fault
    · exact fault
  unfold State.takeDue State.takeDueAnswer
  split
  · split
    · exact State.noAnswer_exchanging (by assumption) age
    · exact age
  · exact age

/-! ### Frames heard -/

@[simp] theorem State.deliverAnswer_exchanging (a : Answer) (h : s.Exchanging) : (s.deliverAnswer a).Exchanging := by
  unfold State.deliverAnswer
  split
  · rename_i i awaiting
    split
    · have := h.leave (i := i) (by simp [State.engagement_of_awaitingSlot awaiting])
      simpa [State.Exchanging] using this
    · exact h
  · exact h

@[simp] theorem State.deliverFrame_exchanging (f : Frame) (replySlot : Bool) (h : s.Exchanging) :
    (s.deliverFrame f replySlot).Exchanging := by
  cases f with
  | segment g =>
    have heard := State.hearFrame_exchanging g.source h
    unfold State.deliverFrame
    dsimp only
    split
    · simpa [State.Exchanging] using heard
    · exact heard
  | answer a =>
    have heard := State.hearFrame_exchanging a.source h
    unfold State.deliverFrame
    dsimp only
    split
    · exact State.deliverAnswer_exchanging a heard
    · exact heard
  | beacon b => exact State.hearBeacon_exchanging b h

@[simp] theorem State.receive_exchanging (f : Heard) (h : s.Exchanging) : (s.receive f).Exchanging := by
  have ended (reserves : Bool) : (s.endHeard reserves).Exchanging := by simpa [State.Exchanging] using h
  unfold State.receive
  split
  · simpa [State.Exchanging] using h
  · split
    · exact State.report_exchanging _ (ended _)
    · exact ended _
  · split
    · exact State.report_exchanging _ (ended _)
    · exact State.deliverFrame_exchanging _ _ (ended _)

end Sys2Proof.Machine
end

section
/-! The exchanges across every command. -/

namespace Sys2Proof.Machine

variable {s t : State} {c : Instr}

/-! ### The commands that move a slot into or out of an exchange -/

theorem State.placeSlot_exchanging {i : Tag} (h : s.Exchanging) (other : s.requester.engagement i ≠ .contending) :
    (s.placeSlot i).Exchanging := by
  simpa [State.Exchanging] using h.leave other

theorem State.setSlot_exchanging {i : Tag} (x : Slot) (same : x.state = (s.slot i).state) (h : s.Exchanging) :
    (s.setSlot i x).Exchanging := by
  have : Function.update s.requester.engagement i x.state.engagement = s.requester.engagement := by
    rw [same]
    exact Function.update_eq_self _ _
  simpa [State.Exchanging, this] using h

theorem State.engagement_of_isFree {i : Tag} (h : (s.slot i).state.isFree = true) :
    s.requester.engagement i = .none := by
  rw [State.engagement_slot, SlotState.isFree_iff.1 h]
  rfl

/-- A dispatch fills a FREE slot, which has no part in an exchange before or after. -/
theorem State.dispatchInto_exchanging (d : Descriptor) (rest : List Descriptor) {i : Tag}
    (free : (s.slot i).state.isFree = true) (h : s.Exchanging) : (s.dispatchInto d rest i).Exchanging := by
  have moved : (s.moved d rest i).Exchanging := by
    have := h.leave (i := i) (by simp [State.engagement_of_isFree free])
    have engagement : (s.moved d rest i).requester.engagement = Function.update s.requester.engagement i .none :=
      s.setSlot_engagement i ((s.slot i).dispatched d s.requester.dispatchSeq)
    rwa [← engagement] at this
  rw [State.dispatchInto_eq]
  split
  · exact moved
  · refine State.placeSlot_exchanging moved ?_
    rw [State.engagement_slot, State.moved_slot, if_pos rfl]
    simp [Slot.dispatched, SlotState.engagement]

/-- A DONE slot has no part in an exchange, and becomes FREE. -/
theorem State.completeSlot_exchanging (i : Tag) (h : s.Exchanging) : (s.completeSlot i).Exchanging := by
  unfold State.completeSlot
  split
  · rename_i hd
    have := h.leave (i := i) (by rw [State.engagement_slot, hd]; simp [SlotState.engagement])
    simpa [State.Exchanging, Slot.freed, SlotState.engagement] using this
  · exact h

/-- The load makes one READY slot CONTENDING, with nothing loaded and no slot AWAITING before. -/
theorem State.loadSlot_exchanging (i : Tag) (empty : s.link.tx = none) (quiet : s.awaitingSlot = none)
    (h : s.Exchanging) : (s.loadSlot i).Exchanging := by
  have idle (j : Tag) : s.requester.engagement j ≠ .contending := by
    rw [State.Exchanging, empty] at h
    exact h.not_contending j
  have unawaited (j : Tag) : s.requester.engagement j ≠ .awaiting := fun e =>
    Bool.eq_false_iff.1 (lowestOf_eq_none.1 quiet j) (SlotState.isAwaiting_iff.2 e)
  have engagement : (s.loadSlot i).requester.engagement = Function.update s.requester.engagement i .contending := by
    simp [State.loadSlot, SlotState.engagement]
  have tx : loadedBy (s.loadSlot i).link.tx = some i := by simp [State.loadSlot, State.loadFrame]
  have awaits {j : Tag} (hj : Function.update s.requester.engagement i .contending j = .awaiting) : False := by
    by_cases hji : j = i
    · simp [hji] at hj
    · rw [Function.update_of_ne hji] at hj
      exact unawaited j hj
  rw [State.Exchanging, engagement, tx]
  refine ⟨fun j => ?_, fun j k hj => (awaits hj).elim, fun j k hj => (awaits hj).elim⟩
  by_cases hji : j = i
  · simp [hji]
  · rw [Function.update_of_ne hji]
    exact iff_of_false (idle j) fun e => hji (Option.some.inj e).symm

/-- The loaded slot's SEGMENT sent in full makes it the one AWAITING slot. -/
theorem Exchanges.sent {e : Tag → Engagement} {i : Tag} (h : Exchanges e (some i)) :
    Exchanges (Function.update e i .awaiting) none := by
  obtain ⟨loaded, -, apart⟩ := h
  have contending : e i = .contending := (loaded i).2 rfl
  have only {j : Tag} (hj : Function.update e i .awaiting j = .awaiting) : j = i := by
    by_contra hji
    rw [Function.update_of_ne hji] at hj
    exact apart j i hj contending
  have idle (j : Tag) : Function.update e i .awaiting j ≠ .contending := by
    by_cases hji : j = i
    · simp [hji]
    · rw [Function.update_of_ne hji]
      exact fun hj => hji (Option.some.inj ((loaded j).1 hj)).symm
  exact ⟨fun j => iff_of_false (idle j) (by simp), fun j k hj hk => (only hj).trans (only hk).symm,
    fun _ k _ => idle k⟩

theorem execTransmitRegisterLoad_exchanging (h : s.Exchanging) (e : execTransmitRegisterLoad s = .next t) :
    t.Exchanging := by
  cases e
  split
  · exact h
  · rename_i may
    have empty : s.link.tx = none := by
      by_contra hne
      exact may (.inl (Option.isSome_iff_ne_none.2 hne))
    split
    · rw [State.Exchanging, empty] at h
      exact h
    · split
      · rename_i ready
        split
        · exact State.loadSlot_exchanging _ empty ready.2 h
        · exact h
      · exact h

theorem execFrameSentInFull_exchanging (h : s.Exchanging) (e : execFrameSentInFull s = .next t) : t.Exchanging := by
  cases e
  split
  · split
    · simpa [State.Exchanging] using h
    · split
      · rename_i i _ tx
        rw [State.Exchanging, tx] at h
        simpa [State.Exchanging, Slot.sent, SlotState.engagement] using h.sent
      · rename_i b tx
        rw [State.Exchanging, tx] at h
        unfold State.beaconSent
        split
        · simpa [State.Exchanging, State.endLeaving] using h
        · simpa [State.Exchanging] using h
      · exact h
  · exact h

theorem execFrameAbandoned_exchanging (h : s.Exchanging) (e : execFrameAbandoned s = .next t) : t.Exchanging := by
  cases e
  split
  · split
    · simpa [State.Exchanging] using h
    · split
      · rename_i i _ tx
        rw [State.Exchanging, tx] at h
        have := h.release i (fun _ => rfl) fun other => absurd ((h.1 i).2 rfl) other
        simpa [State.Exchanging] using this
      · rename_i tx
        rw [State.Exchanging, tx] at h
        simpa [State.Exchanging] using h
      · exact h
  · exact h

/-! ### The host's commands -/

/-- A host access keeps the exchanges when its effect does. -/
theorem State.hostTakes_exchanging {u : State} (h : s.Exchanging) (k : t.Exchanging)
    (e : s.hostTakes t = .next u) : u.Exchanging := by
  rcases State.hostTakes_cases e with ⟨-, rfl⟩ | ⟨-, rfl⟩
  · exact k
  · exact h

theorem State.abortSlot_exchanging (i : Tag) (h : s.Exchanging) : (s.abortSlot i).Exchanging := by
  unfold State.abortSlot
  split
  · rename_i waits
    simpa [State.Exchanging] using h.withdraw (State.inFlight_of_waiting waits)
  · split
    · have marked := State.setSlot_exchanging (i := i) { s.slot i with abortMark := true } rfl h
      simpa [State.Exchanging] using marked
    · simpa [State.Exchanging] using h

/-! ### Many slots at once -/

/-- The slot whose segment is loaded is CONTENDING, so it waits exactly while its transmission has not begun. -/
theorem State.Exchanging.loaded {i : Tag} (h : s.Exchanging) (hl : loadedBy s.link.tx = some i) :
    (s.slot i).state.isContending = true ∧ s.waiting i = !s.link.begun := by
  have contending : (s.slot i).state = .contending := SlotState.engagement_eq_contending_iff.1 ((h.1 i).2 hl)
  constructor
  · rw [contending]
    rfl
  · rw [State.waiting_eq, State.inFlight, contending]
    cases s.link.begun <;> rfl

/-- Slots that leave together, the loaded one among them just while its transmission has not begun, when its frame is withdrawn. -/
theorem State.Exchanging.releaseUnbegun {l : Option TxFrame} (h : s.Exchanging) (which : Tag → Bool)
    (loaded : ∀ i, loadedBy s.link.tx = some i → which i = !s.link.begun)
    (begun : s.link.begun = true → loadedBy l = loadedBy s.link.tx) (unbegun : s.link.begun = false → loadedBy l = none) :
    Exchanges (fun i => if which i then .none else s.requester.engagement i) (loadedBy l) := by
  refine h.releaseAll which (fun i hl hw => unbegun ?_) fun hn => ?_
  · simpa [loaded i hl] using hw
  · cases hl : loadedBy s.link.tx with
    | none =>
      cases hb : s.link.begun with
      | true => rw [begun hb, hl]
      | false => exact unbegun hb
    | some i =>
      have := loaded i hl
      rw [hn i hl, Bool.false_eq, Bool.not_eq_false'] at this
      rw [begun this, hl]

/-- Entry to LEAVING ends the waiting slots and empties the register of an unbegun frame (R61). -/
theorem State.startLeaving_exchanging (h : s.Exchanging) : s.startLeaving.Exchanging := by
  have marked := (s.endSlots s.waiting .stationLeaving).markSlots_engagement s.inFlight
    (f := fun x => { x with deferred := some (x.deferred.getD .stationLeaving) }) fun _ => rfl
  rw [State.endSlots_engagement] at marked
  unfold State.startLeaving
  dsimp only
  split
  · rename_i begun
    have := h.releaseUnbegun (l := s.link.tx) s.waiting (fun _ hl => (h.loaded hl).2) (fun _ => rfl) (by simp [begun])
    simpa [State.Exchanging, marked] using this
  · rename_i unbegun
    have := h.releaseUnbegun (l := none) s.waiting (fun _ hl => (h.loaded hl).2) (fun hb => absurd hb unbegun) fun _ => rfl
    simpa [State.Exchanging, marked] using this

/-- The withdrawal of a segment leaves none loaded unless its transmission has begun. -/
theorem State.withdrawSegment_loaded (s : State) :
    loadedBy s.withdrawSegment.link.tx = if s.link.begun then loadedBy s.link.tx else none := by
  unfold State.withdrawSegment
  cases hb : s.link.begun <;> rcases ht : s.link.tx with _ | ⟨_, _⟩ | _ <;> simp [ht]

/-- Entry to QUIET takes the unbegun CONTENDING slot back to READY (R60). -/
theorem State.quietSlots_exchanging (h : s.Exchanging) : s.quietSlots.Exchanging := by
  have released := h.releaseUnbegun (l := s.withdrawSegment.link.tx)
    (fun i => (s.slot i).state.isContending && !s.link.begun) (fun _ hl => by simp [(h.loaded hl).1])
    (fun hb => by simp [State.withdrawSegment_loaded, hb]) fun hb => by simp [State.withdrawSegment_loaded, hb]
  have engagement : s.quietSlots.requester.engagement = fun i =>
      if ((s.slot i).state.isContending && !s.link.begun) = true then .none else s.requester.engagement i := by
    funext i
    simp only [State.quietSlots, State.withdrawSegment_frame, State.engagement_slot, State.slot_markSlots]
    split <;> rfl
  rw [State.Exchanging, engagement, State.quietSlots, State.withdrawSegment_loaded]
  rwa [State.withdrawSegment_loaded] at released

/-- ABORT-ALL ends the waiting slots and withdraws an unbegun SEGMENT (R66). -/
theorem execAbortAll_exchanging (h : s.Exchanging) (e : execAbortAll s = .next t) : t.Exchanging := by
  refine State.hostTakes_exchanging h ?_ e
  have marked := (s.endSlots s.waiting .aborted).markSlots_engagement s.inFlight
    (f := fun x => { x with abortMark := true }) fun _ => rfl
  rw [State.endSlots_engagement] at marked
  have released := h.releaseUnbegun (l := s.withdrawSegment.link.tx) s.waiting (fun _ hl => (h.loaded hl).2)
    (fun hb => by simp [State.withdrawSegment_loaded, hb]) fun hb => by simp [State.withdrawSegment_loaded, hb]
  rw [State.withdrawSegment_loaded] at released
  simpa [State.Exchanging, State.withdrawSegment_loaded, marked] using released

/-! ### Every command -/

@[simp] theorem State.setQueue_engagement (s : State) (q : List Descriptor) :
    (s.setQueue q).requester.engagement = s.requester.engagement := rfl

@[simp] theorem State.actOn_requester (s : State) (j : EntryNo) (w : HeldWindow) (y : Cycle) (data : BitVec 32)
    (k : TerminationKind) : (s.actOn j w y data k).requester = s.requester := by
  cases k <;> simp [State.actOn]

@[simp] theorem State.joinSpan_tx (s : State) : s.joinSpan.link.tx = s.link.tx := rfl

theorem execDispatch_exchanging (h : s.Exchanging) (e : execDispatch s = .next t) : t.Exchanging := by
  cases e
  split
  · rename_i d rest i hd
    obtain ⟨-, free, -⟩ := State.dispatchable_eq_some.1 hd
    exact State.dispatchInto_exchanging d rest (lowestOf_eq_some free).1 h
  · exact h

theorem execLeave_exchanging (silent : s.silentWhenOff) (h : s.Exchanging) (e : execLeave s = .next t) :
    t.Exchanging := by
  refine State.hostTakes_exchanging h ?_ e
  split
  · simpa [State.Exchanging] using h
  · simpa [State.Exchanging] using h
  · rename_i listening
    obtain ⟨empty, -⟩ := silent (by simp [State.transmitterOn, listening])
    rw [State.Exchanging, empty] at h
    simpa [State.Exchanging] using h
  · simpa [State.Exchanging] using h
  all_goals simpa [State.Exchanging] using State.startLeaving_exchanging h

theorem execQuiet_exchanging {arg : Byte} (h : s.Exchanging) (e : execQuiet arg s = .next t) : t.Exchanging := by
  refine State.hostTakes_exchanging h ?_ e
  split
  · split
    · simpa [State.Exchanging] using State.quietSlots_exchanging h
    · simpa [State.Exchanging] using h
  · split <;> simpa [State.Exchanging] using h
  all_goals simpa [State.Exchanging] using h

theorem State.reset_exchanging {t : State} (requester : t.requester = Requester.reset) (tx : t.link.tx = none) :
    t.Exchanging := by
  have idle : t.requester.engagement = fun _ => .none := by
    funext i
    rw [State.engagement_slot, State.slot_of_reset requester]
    rfl
  rw [State.Exchanging, idle, tx]
  exact Exchanges.idle

/-- Every command keeps the exchanges consistent. -/
theorem exec_exchanging (silent : s.silentWhenOff) (h : s.Exchanging) (e : exec c s = .next t) : t.Exchanging := by
  cases c with
  | push | popCompletion | popNotice | join | wake | clearFlags | unassignedCommandCode | stagingWrite | peerIndexWrite
  | registerWrite | statusCapture | completionHeadCapture | noticeHeadCapture | peerRecordCapture =>
    refine State.hostTakes_exchanging h ?_ e
    (repeat' split) <;> simpa [State.Exchanging] using h
  | configurationWrite addr data lanes =>
    refine State.hostTakes_exchanging h ?_ e
    unfold State.storeConfiguration
    (repeat' split) <;> simpa [State.Exchanging] using h
  | leave => exact execLeave_exchanging silent h e
  | quiet arg => exact execQuiet_exchanging h e
  | abort arg =>
    refine State.hostTakes_exchanging h ?_ e
    split
    · exact State.abortSlot_exchanging _ h
    · simpa [State.Exchanging] using h
  | abortAll => exact execAbortAll_exchanging h e
  | softReset => exact State.hostTakes_exchanging h (State.reset_exchanging rfl rfl) e
  | coldReset straps held =>
    cases e
    exact State.reset_exchanging rfl rfl
  | dispatch => exact execDispatch_exchanging h e
  | slotCompletionWrite =>
    cases e
    (repeat' split)
    · exact State.completeSlot_exchanging _ h
    all_goals exact h
  | directCompletion =>
    cases e
    (repeat' split) <;> exact h
  | transmitRegisterLoad => exact execTransmitRegisterLoad_exchanging h e
  | frameSentInFull => exact execFrameSentInFull_exchanging h e
  | frameAbandoned => exact execFrameAbandoned_exchanging h e
  | answerTimerExpiry =>
    cases e
    (repeat' split)
    · exact h
    · exact State.noAnswer_exchanging (by assumption) h
    · exact h
  | backoffExpiry i =>
    cases e
    split
    · rename_i hb
      exact State.placeSlot_exchanging h (by rw [State.engagement_slot, hb]; simp [SlotState.engagement])
    · exact h
  | linkFault =>
    cases e
    unfold State.takeDueFault
    split
    · exact State.report_exchanging _ h
    · exact h
  | frameReceived f =>
    cases e
    have due := State.takeDue_exchanging h
    (repeat' split)
    · simpa [State.Exchanging, State.endTail] using due
    · simpa [State.Exchanging] using State.receive_exchanging f due
    · exact due
  | frameStart | contentionLost | answerTransmissionStart | dominantBitFromAnotherStation | listenTimerExpiry
  | beaconPeriodTick =>
    cases e
    have due := State.takeDue_exchanging h
    (repeat' split) <;> simpa [State.Exchanging] using due
  | urgencyAgeing | transmissionBegins | reservationTimeout | idleGapElapsed | contextLifetimeExpiry | targetBusArbiter
  | targetTermination | terminationWithdrawn | targetMonitorExpiry =>
    cases e
    (repeat' split) <;> simpa [State.Exchanging] using h
  | holdPointExpiry =>
    cases e
    dsimp only
    (repeat' split) <;> simpa [State.Exchanging] using h
  | silenceCountExpiry =>
    cases e
    exact State.silenceOne_exchanging h

end Sys2Proof.Machine
end

section
/-! The context table: what each operation leaves of the part each entry has in it, that one entry at most is served by the target
bus unit and one at most holds a requester and tag. -/

namespace Sys2Proof.Machine

/-! ### The part of an entry in the table -/

/-- The requester and tag an entry holds: none while it is FREE or an orphan (R74, R92). -/
def Context.key (c : Context) : Option (StationNo × Tag) :=
  if c.state = .free ∨ c.orphan ≠ .clear then none else some (c.requester, c.tag)

/-- Whether an entry is CYCLING, and the key it holds. -/
def Context.part (c : Context) : Bool × Option (StationNo × Tag) := (c.state.isCycling, c.key)

/-- The parts of the eight entries. -/
def Responder.parts (r : Responder) : EntryNo → Bool × Option (StationNo × Tag) := fun j => r.contexts[j].part

/-- One entry is CYCLING, the one served, and no key is held twice: `cyclingKept` and `keysKept` over the parts of the entries. -/
def Served (p : EntryNo → Bool × Option (StationNo × Tag)) (current : Option EntryNo) : Prop :=
  (∀ j, (p j).1 = true ↔ current = some j) ∧ ∀ i j k, (p i).2 = some k → (p j).2 = some k → i = j

theorem Context.key_eq_some {c : Context} {k : StationNo × Tag} :
    c.key = some k ↔ c.state ≠ .free ∧ c.orphan = .clear ∧ c.requester = k.1 ∧ c.tag = k.2 := by
  unfold Context.key
  split
  · rename_i h
    simp only [reduceCtorEq, false_iff]
    rintro ⟨busy, clear, -⟩
    exact h.elim busy fun orphan => orphan clear
  · rename_i h
    obtain ⟨busy, clear⟩ := not_or.1 h
    simp [busy, not_not.1 clear, Prod.ext_iff]

/-- The key depends on nothing but the state, the orphan flag, the requester and the tag. -/
theorem Context.part_congr {c d : Context} (state : d.state = c.state) (orphan : d.orphan = c.orphan)
    (requester : d.requester = c.requester) (tag : d.tag = c.tag) : d.part = c.part := by
  simp [Context.part, Context.key, state, orphan, requester, tag]

theorem State.served_iff {s : State} :
    s.cyclingKept ∧ s.keysKept ↔ Served s.responder.parts s.target.current := by
  refine and_congr Iff.rfl ⟨fun h i j k hi hj => ?_, fun h i j hi oi hj oj hr ht => ?_⟩
  · obtain ⟨busyI, clearI, reqI, tagI⟩ := Context.key_eq_some.1 hi
    obtain ⟨busyJ, clearJ, reqJ, tagJ⟩ := Context.key_eq_some.1 hj
    exact h i j busyI clearI busyJ clearJ (reqI.trans reqJ.symm) (tagI.trans tagJ.symm)
  · exact h i j ((s.context i).requester, (s.context i).tag) (Context.key_eq_some.2 ⟨hi, oi, rfl, rfl⟩)
      (Context.key_eq_some.2 ⟨hj, oj, hr.symm, ht.symm⟩)

variable {p : EntryNo → Bool × Option (StationNo × Tag)} {current current' : Option EntryNo} {j : EntryNo}

/-- One entry changes: it is the one served afterwards exactly when it is CYCLING then, and no other holds its key. -/
theorem Served.update (h : Served p current) (x : Bool × Option (StationNo × Tag))
    (cycling : x.1 = true ↔ current' = some j) (others : ∀ i, i ≠ j → (current' = some i ↔ current = some i))
    (key : ∀ k, x.2 = some k → ∀ i, i ≠ j → (p i).2 ≠ some k) : Served (Function.update p j x) current' := by
  obtain ⟨served, one⟩ := h
  refine ⟨fun i => ?_, fun i i' k hi hi' => ?_⟩
  · by_cases hij : i = j
    · subst hij
      simpa using cycling
    · rw [Function.update_of_ne hij, others i hij, served]
  · by_cases hij : i = j <;> by_cases hij' : i' = j
    · rw [hij, hij']
    · subst hij
      rw [Function.update_self] at hi
      rw [Function.update_of_ne hij'] at hi'
      exact absurd hi' (key k hi i' hij')
    · subst hij'
      rw [Function.update_self] at hi'
      rw [Function.update_of_ne hij] at hi
      exact absurd hi (key k hi' i hij)
    · rw [Function.update_of_ne hij] at hi
      rw [Function.update_of_ne hij'] at hi'
      exact one i i' k hi hi'

/-- No other entry holds the key an entry holds. -/
theorem Served.key_ne (h : Served p current) {k : StationNo × Tag} (hk : (p j).2 = some k) (i : EntryNo) (hi : i ≠ j) :
    (p i).2 ≠ some k := fun e => hi (h.2 i j k e hk)

/-- An entry that is not CYCLING changes, and is not CYCLING afterwards. -/
theorem Served.set (h : Served p current) (idle : (p j).1 = false) (k' : Option (StationNo × Tag))
    (key : ∀ k, k' = some k → ∀ i, i ≠ j → (p i).2 ≠ some k) : Served (Function.update p j (false, k')) current := by
  refine h.update (false, k') ?_ (fun _ _ => Iff.rfl) key
  rw [← h.1 j, idle]

/-- An entry that is not CYCLING drops its key. -/
theorem Served.drop (h : Served p current) (idle : (p j).1 = false) : Served (Function.update p j (false, none)) current :=
  h.set idle none (by simp)

/-- The entry served is handed back: the unit is idle, and the entry keeps its key or drops it. -/
theorem Served.handBack (h : Served p (some j)) (k' : Option (StationNo × Tag)) (key : k' = none ∨ k' = (p j).2) :
    Served (Function.update p j (false, k')) none := by
  refine h.update (false, k') (by simp) (fun i hi => by simpa using fun e => hi e.symm) fun k hk i hi => ?_
  rcases key with rfl | rfl
  · cases hk
  · exact h.key_ne hk i hi

end Sys2Proof.Machine
end

section
/-! What each operation of the responder and of the target bus unit leaves of the context table's parts. -/

namespace Sys2Proof.Machine

variable {s : State}

/-- The context table is consistent with the target bus unit. -/
abbrev State.Serving (s : State) : Prop := Served s.responder.parts s.target.current

@[simp] theorem Responder.parts_mk (r : Responder) (hold : Option Nat) (creation answered : Nat) :
    Responder.parts { contexts := r.contexts, holdTimer := hold, creationNext := creation, answeredNext := answered } =
      r.parts := rfl

theorem State.parts_context (s : State) (j : EntryNo) : s.responder.parts j = (s.context j).part := rfl

/-! ### One entry -/

@[simp] theorem State.setContext_parts (s : State) (j : EntryNo) (c : Context) :
    (s.setContext j c).responder.parts = Function.update s.responder.parts j c.part := by
  funext i
  rw [State.parts_context, State.context_setContext]
  by_cases h : i = j <;> simp [h, State.parts_context]

@[simp] theorem Context.freed_part (c : Context) : c.freed.part = (false, none) := rfl

@[simp] theorem State.freeContext_parts (s : State) (j : EntryNo) :
    (s.freeContext j).responder.parts = Function.update s.responder.parts j (false, none) := by
  simp [State.freeContext]

/-- An entry that keeps its state's kind, its key and its orphan flag keeps its part. -/
theorem State.setContext_serving {j : EntryNo} {c : Context} (same : c.part = (s.context j).part) (h : s.Serving) :
    (s.setContext j c).Serving := by
  have : Function.update s.responder.parts j c.part = s.responder.parts := by
    rw [same]
    exact Function.update_eq_self _ _
  simpa [State.Serving, this] using h

theorem State.parts_idle {j : EntryNo} (h : (s.context j).state.isCycling = false) : (s.responder.parts j).1 = false := h

theorem State.freeContext_serving {j : EntryNo} (idle : (s.context j).state.isCycling = false) (h : s.Serving) :
    (s.freeContext j).Serving := by
  simpa [State.Serving] using h.drop (State.parts_idle idle)

/-- An entry whose result is answered keeps its key, and is not CYCLING. -/
theorem State.answerStored_parts {j : EntryNo} (busy : (s.context j).state ≠ .free) (r : RunResult) :
    (s.answerStored j r).responder.parts = Function.update s.responder.parts j (false, (s.context j).key) := by
  simp [State.answerStored, Context.part, Context.key, busy, ContextState.isCycling]

theorem State.answerStored_serving {j : EntryNo} (busy : (s.context j).state ≠ .free)
    (idle : (s.context j).state.isCycling = false) (r : RunResult) (h : s.Serving) : (s.answerStored j r).Serving := by
  have := h.set (State.parts_idle idle) (s.context j).key fun k hk => h.key_ne (j := j) hk
  simpa [State.Serving, State.answerStored_parts busy] using this

end Sys2Proof.Machine
end

section
/-! The context table across the delivery of a segment, the end of a run, and every command. -/

namespace Sys2Proof.Machine

variable {s t : State} {c : Instr}

/-! ### A segment takes an entry -/

/-- No entry but the one given holds the key of a segment, and the one given is not CYCLING. -/
def State.KeyFreeBut (s : State) (g : Segment) (e : Option EntryNo) : Prop :=
  (∀ i, (s.responder.parts i).2 = some (g.source, g.tag) → e = some i) ∧
    ∀ j, e = some j → (s.responder.parts j).1 = false

/-- The new context is QUEUED under the segment's key. -/
theorem State.createContext_parts (s : State) (j : EntryNo) (g : Segment) (w : EntryNo) (len : Nat) :
    (s.createContext j g w len).responder.parts =
      Function.update s.responder.parts j (false, some (g.source, g.tag)) := by
  funext i
  rw [State.parts_context, State.context_createContext]
  by_cases h : i = j
  · simp [h, Context.part, Context.key, ContextState.isCycling]
  · simp [h, State.parts_context]

theorem State.createContext_serving {j : EntryNo} {g : Segment} (w : EntryNo) (len : Nat)
    (idle : (s.responder.parts j).1 = false)
    (free : ∀ i, (s.responder.parts i).2 = some (g.source, g.tag) → i = j) (h : s.Serving) :
    (s.createContext j g w len).Serving := by
  have := h.set idle (some (g.source, g.tag)) fun k hk i hi hki => hi (free i (by rw [hki, hk]))
  simpa [State.Serving, State.createContext_parts] using this

/-- The entry the arbiter gives is FREE or ANSWERED, so it is not CYCLING (R85). -/
theorem State.entryFor_idle {j : EntryNo} (h : s.entryFor = some j) : (s.context j).state.isCycling = false := by
  rw [ContextState.isCycling_eq_false_iff]
  intro cycling
  unfold State.entryFor at h
  split at h
  · rename_i hj
    obtain rfl := Option.some.inj h
    have free := (lowestOf_eq_some hj).1
    simp [cycling, ContextState.isFree] at free
  · have answered := bestOf_admitted h
    simp [cycling, ContextState.isAnswered] at answered

theorem State.takeAdmitted_serving {g : Segment} {e : Option EntryNo} (w : EntryNo) (len : Nat)
    (free : s.KeyFreeBut g e) (h : s.Serving) : (s.takeAdmitted g e w len).Serving := by
  obtain ⟨others, idle⟩ := free
  unfold State.takeAdmitted
  split
  · rename_i j
    exact State.createContext_serving w len (idle j rfl) (fun i hi => (Option.some.inj (others i hi)).symm) h
  · split
    · rename_i j hj
      exact State.createContext_serving w len (State.parts_idle (State.entryFor_idle hj))
        (fun i hi => nomatch others i hi) h
    · simpa [State.Serving] using h

theorem State.treatAsNew_serving {g : Segment} {e : Option EntryNo} (free : s.KeyFreeBut g e) (h : s.Serving) :
    (s.treatAsNew g e).Serving := by
  unfold State.treatAsNew
  split
  · split
    · rename_i j
      simpa [State.Serving] using State.freeContext_serving (free.2 j rfl) h
    · simpa [State.Serving] using h
  · exact State.takeAdmitted_serving _ _ free h

theorem State.serveUnknown_serving {g : Segment} (free : s.KeyFreeBut g none) (h : s.Serving) :
    (s.serveUnknown g).Serving := by
  unfold State.serveUnknown
  split
  · exact State.treatAsNew_serving free h
  · split
    · simpa [State.Serving] using h
    · split
      · exact State.takeAdmitted_serving _ _ free h
      · simpa [State.Serving] using h

/-! ### The lookup -/

/-- What the lookup asks of an entry: that it holds the key (R77). -/
theorem Context.holds_iff {c : Context} {requester : StationNo} {tag : Tag} :
    (!c.state.isFree && c.orphan == .clear && c.requester == requester && c.tag == tag) = true ↔
      c.key = some (requester, tag) := by
  rw [Context.key_eq_some]
  cases c.state <;> simp [ContextState.isFree, and_assoc]

theorem State.findContext_eq_some {requester : StationNo} {tag : Tag} {j : EntryNo}
    (h : s.findContext requester tag = some j) : (s.context j).key = some (requester, tag) :=
  Context.holds_iff.1 (lowestOf_eq_some h).1

theorem State.findContext_eq_none {requester : StationNo} {tag : Tag} (h : s.findContext requester tag = none)
    (i : EntryNo) : (s.context i).key ≠ some (requester, tag) := fun hk =>
  Bool.eq_false_iff.1 (lowestOf_eq_none.1 h i) (Context.holds_iff.2 hk)

theorem State.keyFreeBut_none {g : Segment} (h : ∀ i, (s.responder.parts i).2 ≠ some (g.source, g.tag)) :
    s.KeyFreeBut g none := ⟨fun i hi => absurd hi (h i), fun _ hj => nomatch hj⟩

/-- Once the context that holds a segment's key is discarded, the table is consistent and no entry holds the key (R78). -/
theorem State.discardContext_serving {g : Segment} {j : EntryNo} (key : (s.context j).key = some (g.source, g.tag))
    (h : s.Serving) : (s.discardContext j).Serving ∧ (s.discardContext j).KeyFreeBut g none := by
  have others (i : EntryNo) (hi : i ≠ j) : (s.responder.parts i).2 ≠ some (g.source, g.tag) := h.key_ne key i hi
  have parts : (s.discardContext j).responder.parts =
      Function.update s.responder.parts j ((s.context j).state.isCycling, none) := by
    unfold State.discardContext
    split
    · rename_i free
      exact absurd free (Context.key_eq_some.1 key).1
    all_goals
      rename_i hs
      simp [hs, Context.part, Context.key, ContextState.isCycling]
  have same : (s.discardContext j).target.current = s.target.current := by simp
  refine ⟨?_, State.keyFreeBut_none fun i => ?_⟩
  · rw [State.Serving, parts, same]
    exact h.update _ (h.1 j) (fun _ _ => Iff.rfl) (by simp)
  · rw [parts]
    by_cases hi : i = j
    · simp [hi]
    · rw [Function.update_of_ne hi]
      exact others i hi

theorem State.serveRepeat_serving (g : Segment) (j : EntryNo) (h : s.Serving) : (s.serveRepeat g j).Serving := by
  have owed : (s.setContext j { s.context j with answerOwed := true }).Serving :=
    State.setContext_serving (Context.part_congr rfl rfl rfl rfl) h
  have stored (r : RunResult) (hs : (s.context j).state ≠ .free) (hc : (s.context j).state.isCycling = false) :
      (s.answerStored j r).Serving := State.answerStored_serving hs hc r h
  unfold State.serveRepeat
  dsimp only
  split
  · simpa [State.Serving] using h
  · split
    · exact h
    · simpa [State.Serving] using owed
    · simpa [State.Serving] using owed
    all_goals
      rename_i hs
      exact stored _ (by simp [hs]) (by simp [hs, ContextState.isCycling])

theorem State.supersede_serving {g : Segment} {j : EntryNo} (key : (s.context j).key = some (g.source, g.tag))
    (h : s.Serving) : (s.supersede g j).Serving := by
  have free (idle : (s.context j).state.isCycling = false) : s.KeyFreeBut g (some j) := by
    refine ⟨fun i hi => congrArg some (h.2 j i _ key hi), fun i hi => ?_⟩
    obtain rfl := Option.some.inj hi
    exact State.parts_idle idle
  unfold State.supersede
  split
  · exact h
  · simpa [State.Serving] using h
  · simpa [State.Serving] using h
  · rename_i hs
    refine State.treatAsNew_serving ?_ (by simpa [State.Serving] using h)
    simpa [State.KeyFreeBut] using free (by simp [hs, ContextState.isCycling])
  · rename_i hs
    exact State.treatAsNew_serving (free (by simp [hs, ContextState.isCycling])) h

/-- The lookup keeps the table consistent, whichever case the segment meets (R77). -/
@[simp] theorem State.lookup_serving (g : Segment) (h : s.Serving) : (s.lookup g).Serving := by
  unfold State.lookup
  dsimp only
  split
  · rename_i none
    have free := State.keyFreeBut_none (s := s) (g := g) (State.findContext_eq_none none)
    split
    · exact State.treatAsNew_serving free h
    · exact State.serveUnknown_serving free h
  · rename_i j some
    have key := State.findContext_eq_some some
    obtain ⟨discarded, free⟩ := State.discardContext_serving key h
    split
    · exact State.treatAsNew_serving free discarded
    · split
      · split
        · exact State.serveRepeat_serving g j h
        · split
          · exact State.supersede_serving key h
          · simpa [State.Serving] using h
      · exact State.serveUnknown_serving free discarded

@[simp] theorem State.deliverSegment_serving (g : Segment) (h : s.Serving) : (s.deliverSegment g).Serving := by
  have woken : (s.wakeReport g).Serving := by simpa [State.Serving] using h
  have refused (cause : Cause) : (s.answerRefused g cause).Serving := by simpa [State.Serving] using h
  have busy : (s.answerBusy g).Serving := by simpa [State.Serving] using h
  unfold State.deliverSegment
  split
  · exact h
  · exact h
  · exact h
  · exact busy
  · split
    · exact refused _
    · exact State.lookup_serving g h
  · split
    · exact refused _
    · split
      · exact State.lookup_serving g h
      · split
        · exact State.lookup_serving g woken
        · exact busy

/-! ### The end of a reservation, of a run and of the station's time on the span -/

@[simp] theorem State.endReservation_parts (s : State) : s.endReservation.responder.parts = s.responder.parts := by
  funext j
  rw [State.parts_context, State.context_endReservation]
  exact Context.part_congr rfl rfl rfl rfl

/-- The clearing leaves the CYCLING entry an orphan and frees every other. -/
@[simp] theorem State.clearContexts_parts (s : State) :
    s.clearContexts.responder.parts = fun j => ((s.responder.parts j).1, none) := by
  funext j
  rw [State.parts_context, State.context_clearContexts, State.parts_context, Context.isolate_eq]
  split
  · rename_i cycling
    by_cases clear : (s.context j).orphan = .clear <;> simp [Context.part, Context.key, clear]
  · rename_i idle
    simp [Context.part, Context.key, ContextState.isCycling]

theorem Served.clear {p : EntryNo → Bool × Option (StationNo × Tag)} {current : Option EntryNo} (h : Served p current) :
    Served (fun j => ((p j).1, none)) current :=
  ⟨h.1, fun _ _ _ hi => nomatch hi⟩

@[simp] theorem State.isolate_serving (k : NoticeKind) (h : s.Serving) : (s.isolate k).Serving := by
  simpa [State.Serving, State.isolate] using h.clear

@[simp] theorem State.report_serving (k : NoticeKind) (h : s.Serving) : (s.report k).Serving := by
  unfold State.report
  split
  · exact State.isolate_serving k h
  · exact h

@[simp] theorem State.endLeaving_serving (h : s.Serving) : s.endLeaving.Serving := by
  simpa [State.Serving, State.endLeaving] using h.clear

/-- The end of the run served hands its entry back: the unit is idle, and the entry keeps its key or is freed. -/
@[simp] theorem State.endRun_serving {j : EntryNo} (current : s.target.current = some j) (r : RunResult) (h : s.Serving) :
    (s.endRun j r).Serving := by
  have cycling : (s.context j).state.isCycling = true := (h.1 j).2 current
  have busy : (s.context j).state ≠ .free := fun e => by simp [e, ContextState.isCycling] at cycling
  rw [State.Serving, current] at h
  have freed := h.handBack none (.inl rfl)
  have kept := h.handBack (s.context j).key (.inr rfl)
  have idle : s.idleUnit.target.current = none := rfl
  have same : s.idleUnit.context j = s.context j := rfl
  have parts : s.idleUnit.responder.parts = s.responder.parts := rfl
  have ended : (s.idleUnit.cyclesEnd j r).Serving := by
    unfold State.cyclesEnd
    dsimp only
    split
    · simpa [State.Serving, idle] using freed
    · simpa [State.Serving, idle] using freed
    · split
      · rw [State.Serving, State.answerStored_parts (by exact busy)]
        exact kept
      · have ready : ({ s.context j with state := .ready r s.idleUnit.cl } : Context).part = (false, (s.context j).key) := by
          simp [Context.part, Context.key, busy, ContextState.isCycling]
        simpa [State.Serving, idle, same, ready] using kept
  simpa [State.endRun, State.Serving] using ended

@[simp] theorem State.failRun_serving {j : EntryNo} (current : s.target.current = some j) (cause : Cause)
    (h : s.Serving) : (s.failRun j cause).Serving :=
  State.endRun_serving current _ h

@[simp] theorem State.awaitWithdrawal_current (s : State) (goesOn : Bool) :
    (s.awaitWithdrawal goesOn).target.current = s.target.current := rfl

@[simp] theorem State.stopMonitor_current (s : State) : s.stopMonitor.target.current = s.target.current := rfl

@[simp] theorem State.idlePins_current (s : State) : s.idlePins.target.current = s.target.current := rfl

/-- What a termination makes of the run served keeps the table consistent. -/
theorem State.actOn_serving {j : EntryNo} (current : s.target.current = some j) (w : HeldWindow) (y : Cycle)
    (data : BitVec 32) (k : TerminationKind) (h : s.Serving) : (s.actOn j w y data k).Serving := by
  have waiting (goesOn : Bool) : (s.awaitWithdrawal goesOn).Serving := h
  cases k with
  | acknowledge width =>
    have moved : (s.setContext j ((s.context j).acknowledged y (min y.size width) data)).Serving :=
      State.setContext_serving (Context.part_congr rfl rfl rfl rfl) h
    unfold State.actOn State.takeAcknowledge
    dsimp only
    split
    · simpa [State.Serving] using moved
    · exact State.endRun_serving (by simpa using current) _ (by simpa [State.Serving] using moved)
  | retry =>
    unfold State.actOn State.takeRetry
    dsimp only
    split
    · exact State.failRun_serving (by simpa using current) _ (waiting false)
    · exact h
  | error => exact State.failRun_serving (by simpa using current) _ (waiting false)

/-! ### Frames heard and consequences due -/

@[simp] theorem State.takeDue_serving (h : s.Serving) : s.takeDue.Serving := by
  have fault : (State.silenceAll 32 s).takeDueFault.Serving := by
    have silence : (State.silenceAll 32 s).Serving := by simpa [State.Serving] using h
    unfold State.takeDueFault
    split
    · exact State.report_serving _ silence
    · exact silence
  simpa [State.Serving, State.takeDue] using fault

@[simp] theorem State.endHeard_serving (reserves : Bool) (h : s.Serving) : (s.endHeard reserves).Serving := by
  unfold State.endHeard
  (repeat' split) <;> simpa [State.Serving] using h

@[simp] theorem State.deliverFrame_serving (f : Frame) (replySlot : Bool) (h : s.Serving) :
    (s.deliverFrame f replySlot).Serving := by
  cases f with
  | segment g =>
    have heard : (s.hearFrame g.source).Serving := by simpa [State.Serving] using h
    unfold State.deliverFrame
    dsimp only
    split
    · exact State.deliverSegment_serving g heard
    · exact heard
  | answer a =>
    unfold State.deliverFrame
    dsimp only
    split <;> simpa [State.Serving] using h
  | beacon b => simpa [State.Serving, State.deliverFrame] using h

@[simp] theorem State.receive_serving (f : Heard) (h : s.Serving) : (s.receive f).Serving := by
  have ended (reserves : Bool) : (s.endHeard reserves).Serving := State.endHeard_serving reserves h
  unfold State.receive
  split
  · simpa [State.Serving] using ended true
  · split
    · exact State.report_serving _ (ended _)
    · exact ended _
  · split
    · exact State.report_serving _ (ended _)
    · exact State.deliverFrame_serving _ _ (ended _)

/-! ### Every command -/

/-- A host access keeps the context table consistent when its effect does. -/
theorem State.hostTakes_serving {u : State} (h : s.Serving) (k : t.Serving) (e : s.hostTakes t = .next u) :
    u.Serving := by
  rcases State.hostTakes_cases e with ⟨-, rfl⟩ | ⟨-, rfl⟩
  · exact k
  · exact h

theorem State.reset_serving {t : State} (responder : t.responder = Responder.reset)
    (idle : t.target.current = none) : t.Serving := by
  have parts : t.responder.parts = fun _ => (false, none) := by
    funext j
    rw [State.parts_context, State.context_of_reset responder]
    rfl
  rw [State.Serving, parts, idle]
  exact ⟨by simp, by simp⟩

/-- The unit takes a QUEUED entry while it is idle: the entry keeps its key and becomes CYCLING (R111). -/
theorem State.takeContext_serving {j : EntryNo} (idle : s.target.current = none)
    (queued : (s.context j).state = .queued) (h : s.Serving) : (s.takeContext j).Serving := by
  have part : ({ s.context j with state := .cycling } : Context).part = (true, (s.context j).key) := by
    simp [Context.part, Context.key, queued, ContextState.isCycling]
  have parts : (s.takeContext j).responder.parts = Function.update s.responder.parts j (true, (s.context j).key) := by
    rw [← part]
    exact s.setContext_parts j _
  have current : (s.takeContext j).target.current = some j := rfl
  rw [State.Serving, parts, current]
  refine h.update _ (by simp) (fun i hi => ?_) fun k hk => h.key_ne (j := j) hk
  rw [idle]
  simpa using fun e => hi e.symm

@[simp] theorem State.startAttempt_current (s : State) : s.startAttempt.target.current = s.target.current := by
  unfold State.startAttempt
  (repeat' split) <;> rfl

theorem execTargetBusArbiter_serving (h : s.Serving) (e : execTargetBusArbiter s = .next t) : t.Serving := by
  cases e
  split
  · exact h
  · rename_i idle
    split
    · exact h
    · rename_i j hj
      have taken := State.takeContext_serving idle (ContextState.isQueued_iff.1 (bestOf_admitted hj)) h
      split
      · simpa [State.Serving] using taken
      · exact taken

theorem execTargetMonitorExpiry_serving (h : s.Serving) (e : execTargetMonitorExpiry s = .next t) : t.Serving := by
  cases e
  split
  · exact State.failRun_serving (by assumption) _ h
  · exact State.failRun_serving (by assumption) _ h
  · rw [State.Serving, State.startAttempt_current]
    simpa using h
  · exact h

theorem execHoldPointExpiry_serving (h : s.Serving) (e : execHoldPointExpiry s = .next t) : t.Serving := by
  cases e
  split
  · exact h
  · dsimp only
    split
    · simpa [State.Serving] using h
    · refine State.setContext_serving (Context.part_congr rfl rfl rfl rfl) ?_
      simpa [State.Serving] using h

theorem execContextLifetimeExpiry_serving {j : EntryNo} (h : s.Serving) (e : execContextLifetimeExpiry j s = .next t) :
    t.Serving := by
  cases e
  have freed (idle : (s.context j).state.isCycling = false) : (s.freeContext j).Serving :=
    State.freeContext_serving idle h
  split
  · rename_i hs
    simpa [State.Serving] using freed (by simp [hs, ContextState.isCycling])
  · rename_i hs
    exact freed (by simp [hs, ContextState.isCycling])
  all_goals exact h

@[simp] theorem State.quietSlots_contexts (s : State) :
    s.quietSlots.responder = s.responder ∧ s.quietSlots.target = s.target := by
  simp [State.quietSlots]

@[simp] theorem State.abortSlot_contexts (s : State) (i : Tag) :
    (s.abortSlot i).responder = s.responder ∧ (s.abortSlot i).target = s.target := by
  unfold State.abortSlot
  (repeat' split) <;> simp

@[simp] theorem State.storeConfiguration_contexts (s : State) (r : HostRegister) (v : Word) (l : Lanes) :
    (s.storeConfiguration r v l).responder = s.responder ∧ (s.storeConfiguration r v l).target = s.target := by
  rw [State.storeConfiguration_frame]
  exact ⟨rfl, rfl⟩

/-- Every command keeps the context table consistent. -/
theorem exec_serving (h : s.Serving) (e : exec c s = .next t) : t.Serving := by
  cases c with
  | push | popCompletion | popNotice | join | leave | quiet | wake | abort | abortAll | clearFlags
  | unassignedCommandCode | configurationWrite | stagingWrite | peerIndexWrite | registerWrite | statusCapture
  | completionHeadCapture | noticeHeadCapture | peerRecordCapture =>
    refine State.hostTakes_serving h ?_ e
    (repeat' split) <;> simpa [State.Serving] using h
  | softReset => exact State.hostTakes_serving h (State.reset_serving rfl rfl) e
  | coldReset straps held =>
    cases e
    exact State.reset_serving rfl rfl
  | frameSentInFull =>
    cases e
    (repeat' split)
    · simpa [State.Serving] using h
    · simpa [State.Serving] using h
    · unfold State.beaconSent
      split
      · exact State.endLeaving_serving (by simpa [State.Serving] using h)
      · simpa [State.Serving] using h
    all_goals exact h
  | linkFault =>
    cases e
    unfold State.takeDueFault
    split
    · exact State.report_serving _ h
    · exact h
  | frameReceived f =>
    cases e
    have due := State.takeDue_serving h
    (repeat' split)
    · exact State.endHeard_serving true due
    · simpa [State.Serving] using State.receive_serving f due
    · exact due
  | frameStart | contentionLost | answerTransmissionStart | dominantBitFromAnotherStation | listenTimerExpiry
  | beaconPeriodTick =>
    cases e
    have due := State.takeDue_serving h
    (repeat' split) <;> simpa [State.Serving] using due
  | dispatch | slotCompletionWrite | directCompletion | transmitRegisterLoad | answerTimerExpiry | backoffExpiry
  | urgencyAgeing | transmissionBegins | frameAbandoned | reservationTimeout | idleGapElapsed | silenceCountExpiry =>
    cases e
    (repeat' split) <;> simpa [State.Serving] using h
  | holdPointExpiry => exact execHoldPointExpiry_serving h e
  | contextLifetimeExpiry j => exact execContextLifetimeExpiry_serving h e
  | targetBusArbiter => exact execTargetBusArbiter_serving h e
  | targetTermination signals =>
    cases e
    split
    · exact State.actOn_serving (by assumption) _ _ _ _ h
    · exact h
  | terminationWithdrawn =>
    cases e
    split
    · rw [State.Serving, State.startAttempt_current]
      simpa using h
    all_goals exact h
  | targetMonitorExpiry => exact execTargetMonitorExpiry_serving h e

end Sys2Proof.Machine
end

section
/-! A station that may not send is silent: what each operation leaves of what is loaded, placed, pending, owed and driven. -/

namespace Sys2Proof.Machine

/-! ### Silence -/

/-- The station state lets the transmitter send (R144). -/
def StationState.sends : StationState → Bool
  | .active | .quiet _ | .leaving => true
  | .offline | .listening | .isolated => false

/-- Nothing is loaded, placed, pending, owed or driven. -/
structure Mute (c : Controller) (l : Link) (r : Responder) : Prop where
  tx          : l.tx = none
  answer      : l.answer = none
  contending  : l.contending = false
  begun       : l.begun = false
  answerBegun : l.answerBegun = false
  pending     : c.pendingBeacon = none
  owed        : ∀ j : EntryNo, r.contexts[j].answerOwed = false

/-- A station that may not send is mute: `silentWhenOff` over the blocks it speaks of. -/
def MuteWhenOff (c : Controller) (l : Link) (r : Responder) : Prop := c.station.sends = false → Mute c l r

/-- The silence of a state. -/
abbrev State.Silent (s : State) : Prop := MuteWhenOff s.controller s.link s.responder

theorem State.transmitterOn_eq (s : State) : s.transmitterOn = s.controller.station.sends := by
  unfold State.transmitterOn
  cases s.controller.station <;> rfl

theorem State.silentWhenOff_iff {s : State} : s.silentWhenOff ↔ s.Silent := by
  unfold State.silentWhenOff State.Silent MuteWhenOff
  rw [State.transmitterOn_eq]
  refine imp_congr_right fun _ => ⟨?_, fun m => ⟨m.tx, m.answer, m.contending, m.begun, m.answerBegun, m.pending, m.owed⟩⟩
  rintro ⟨tx, answer, contending, begun, answerBegun, pending, owed⟩
  exact ⟨tx, answer, contending, begun, answerBegun, pending, owed⟩

/-- A station that may send need not be silent. -/
theorem MuteWhenOff.of_sends {c : Controller} (on : c.station.sends = true) (l : Link) (r : Responder) : MuteWhenOff c l r :=
  fun off => by simp [on] at off

/-- A mute station is silent in every state. -/
theorem Mute.silent {c : Controller} {l : Link} {r : Responder} (h : Mute c l r) : MuteWhenOff c l r := fun _ => h

/-- A change that keeps the station state, and a mute station mute, keeps a silent one silent. -/
theorem MuteWhenOff.imp {c c' : Controller} {l l' : Link} {r r' : Responder} (h : MuteWhenOff c l r) 
    (station : c'.station = c.station)
    (mute : Mute c l r → Mute c' l' r') : MuteWhenOff c' l' r' := fun off => mute (h (station ▸ off))

variable {s t : State}

/-! ### The link unit -/

@[simp] theorem State.emptyTransmit_silent (h : s.Silent) : MuteWhenOff s.controller s.emptyTransmit.link s.responder :=
  h.imp rfl fun m => { m with tx := rfl, begun := rfl, contending := rfl }

@[simp] theorem State.emptyAnswer_silent (h : s.Silent) : MuteWhenOff s.controller s.emptyAnswer.link s.responder :=
  h.imp rfl fun m => { m with answer := rfl, answerBegun := rfl }

@[simp] theorem State.enterGap_silent (k : GapKind) (h : s.Silent) :
    MuteWhenOff s.controller (s.enterGap k).link s.responder :=
  h.imp rfl fun m => { m with }

@[simp] theorem State.enterReserved_silent (h : s.Silent) : MuteWhenOff s.controller s.enterReserved.link s.responder :=
  h.imp rfl fun m => { m with }

@[simp] theorem State.clearFaults_silent (h : s.Silent) : MuteWhenOff s.controller s.clearFaults.link s.responder :=
  h.imp rfl fun m => { m with }

@[simp] theorem State.countFault_silent (l : Layout) (h : s.Silent) :
    MuteWhenOff s.controller (s.countFault l).link s.responder :=
  h.imp rfl fun m => { m with }

@[simp] theorem State.countBadFrame_silent (h : s.Silent) : MuteWhenOff s.controller s.countBadFrame.link s.responder :=
  h.imp rfl fun m => { m with }

@[simp] theorem State.ageFrame_silent (h : s.Silent) : MuteWhenOff s.controller s.ageFrame.link s.responder :=
  h.imp rfl fun m => { m with }

@[simp] theorem State.withdraw_silent (i : Tag) (h : s.Silent) :
    MuteWhenOff s.controller (s.withdraw i).link s.responder := by
  unfold State.withdraw
  split
  · exact State.emptyTransmit_silent h
  · exact h

@[simp] theorem State.withdrawSegment_silent (h : s.Silent) :
    MuteWhenOff s.controller s.withdrawSegment.link s.responder := by
  unfold State.withdrawSegment
  split
  · exact State.emptyTransmit_silent h
  · exact h

/-- This station drives in a contention only when it may send. -/
theorem State.enterContention_silent {driving : Bool} (may : driving = true → s.mayContend = true) (h : s.Silent) :
    (s.enterContention driving).Silent := by
  cases driving with
  | false => exact h.imp rfl fun m => { m with contending := rfl }
  | true =>
    have on : s.transmitterOn = true := by
      have := may rfl
      simp only [State.mayContend, Bool.and_eq_true] at this
      exact this.1
    exact MuteWhenOff.of_sends (s.transmitterOn_eq ▸ on) _ _

/-! ### The station controller -/

@[simp] theorem State.queueBeacon_station (s : State) (p : PendingBeacon) :
    (s.queueBeacon p).controller.station = s.controller.station := by
  unfold State.queueBeacon
  split <;> rfl

@[simp] theorem State.checkLeaving_station (s : State) : s.checkLeaving.controller.station = s.controller.station := by
  unfold State.checkLeaving
  split <;> simp

/-- The LEAVING beacon is queued in LEAVING alone. -/
@[simp] theorem State.checkLeaving_silent (h : s.Silent) :
    MuteWhenOff s.checkLeaving.controller s.checkLeaving.link s.responder := by
  by_cases leaving : s.controller.station = .leaving
  · exact MuteWhenOff.of_sends (by simp [leaving, StationState.sends]) _ _
  · rwa [State.checkLeaving_of_not_leaving leaving]

/-- Entry to ISOLATED leaves nothing loaded, placed, pending, owed or driven. -/
theorem State.isolate_silent (s : State) (k : NoticeKind) : (s.isolate k).Silent := by
  refine Mute.silent ⟨rfl, rfl, rfl, rfl, rfl, rfl, fun j => ?_⟩
  simp only [State.isolate_eq, Fin.getElem_fin, Vector.getElem_ofFn, Context.isolate_eq]
  split <;> rfl

@[simp] theorem State.report_silent (k : NoticeKind) (h : s.Silent) : (s.report k).Silent := by
  unfold State.report
  split
  · exact s.isolate_silent k
  · exact h

/-- The end of the leaving sequence leaves nothing loaded, placed, pending, owed or driven. -/
theorem State.endLeaving_silent (s : State) : s.endLeaving.Silent := by
  refine Mute.silent ⟨rfl, rfl, rfl, rfl, rfl, rfl, fun j => ?_⟩
  simp only [State.endLeaving, State.post_frame, State.enter_frame, State.unlock_frame, State.clearPeers_frame,
    State.clearContexts, State.onResponder_responder, Fin.getElem_fin, Vector.getElem_ofFn, Context.isolate_eq]
  split <;> rfl

@[simp] theorem State.tickEffect_silent (h : s.Silent) :
    MuteWhenOff s.tickEffect.controller s.tickEffect.link s.responder := by
  unfold State.tickEffect
  split
  · split
    · split
      · exact MuteWhenOff.of_sends (by simp [State.endListening, State.enter, StationState.sends]) _ _
      · exact h.imp rfl fun m => { m with }
    · exact h
  · rename_i active
    exact MuteWhenOff.of_sends (by simp [active, StationState.sends]) _ _
  · rename_i quiet
    exact MuteWhenOff.of_sends (by simp [quiet, StationState.sends]) _ _
  all_goals exact h

/-! ### The responder -/

/-- One entry changes, and owes no answer unless it did before. -/
theorem State.Silent.setContext {j : EntryNo} {c : Context} (h : s.Silent)
    (owed : c.answerOwed = true → (s.context j).answerOwed = true) : (s.setContext j c).Silent := by
  refine h.imp rfl fun m => { m with owed := fun i => ?_ }
  have same : (s.setContext j c).responder.contexts[i] = if i = j then c else s.context i := s.context_setContext j i c
  rw [same]
  split
  · exact Bool.eq_false_iff.2 fun e => Bool.eq_false_iff.1 (m.owed j) (owed e)
  · exact m.owed i

@[simp] theorem State.freeContext_silent (j : EntryNo) (h : s.Silent) : (s.freeContext j).Silent :=
  State.Silent.setContext h fun e => by simp [Context.freed] at e

@[simp] theorem State.endReservation_silent (h : s.Silent) : s.endReservation.Silent := by
  refine h.imp rfl fun m => { m with answer := rfl, answerBegun := rfl, owed := fun j => ?_ }
  exact congrArg Context.answerOwed (s.context_endReservation j)

/-- The result of a run is placed only while its answer is owed. -/
@[simp] theorem State.cyclesEnd_silent (j : EntryNo) (r : RunResult) (h : s.Silent) : (s.cyclesEnd j r).Silent := by
  unfold State.cyclesEnd
  dsimp only
  split
  · exact State.freeContext_silent j (by simpa [State.Silent] using h)
  · exact State.freeContext_silent j h
  · split
    · rename_i owed
      refine MuteWhenOff.of_sends (Bool.eq_true_of_not_eq_false fun off => ?_) _ _
      have : (s.context j).answerOwed = false := (h (by simpa using off)).owed j
      simp [owed] at this
    · exact State.Silent.setContext h id

@[simp] theorem State.endRun_silent (j : EntryNo) (r : RunResult) (h : s.Silent) : (s.endRun j r).Silent := by
  have ended : (s.idleUnit.cyclesEnd j r).Silent := State.cyclesEnd_silent j r h
  simpa [State.Silent, State.endRun] using State.checkLeaving_silent ended

theorem State.actOn_silent (j : EntryNo) (w : HeldWindow) (y : Cycle) (data : BitVec 32) (k : TerminationKind)
    (h : s.Silent) : (s.actOn j w y data k).Silent := by
  cases k with
  | acknowledge width =>
    have moved : (s.setContext j ((s.context j).acknowledged y (min y.size width) data)).Silent :=
      State.Silent.setContext h id
    unfold State.actOn State.takeAcknowledge
    dsimp only
    split
    · simpa [State.Silent] using moved
    · exact State.endRun_silent _ _ (by simpa [State.Silent] using moved)
  | retry =>
    unfold State.actOn State.takeRetry
    dsimp only
    split
    · exact State.endRun_silent _ _ h
    · exact h
  | error => exact State.endRun_silent _ _ h

/-- A segment is answered only in ACTIVE, QUIET and LEAVING. -/
@[simp] theorem State.deliverSegment_silent (g : Segment) (h : s.Silent) : (s.deliverSegment g).Silent := by
  unfold State.deliverSegment
  split
  · exact h
  · exact h
  · exact h
  · rename_i leaving
    exact MuteWhenOff.of_sends (by simp [leaving, StationState.sends]) _ _
  · rename_i active
    split <;> exact MuteWhenOff.of_sends (by simp [active, StationState.sends]) _ _
  · rename_i quiet
    have woken : (s.wakeReport g).controller.station = .active := by simp [State.wakeReport, State.enter]
    (repeat' split) <;> exact MuteWhenOff.of_sends (by simp [quiet, woken, StationState.sends]) _ _

/-! ### Frames heard and consequences due -/

@[simp] theorem State.deliverTransition_silent (d : StationNo) (before after : PeerState) (h : s.Silent) :
    MuteWhenOff s.controller (s.deliverTransition d before after).link s.responder := by
  unfold State.deliverTransition State.quietReaches State.endingReaches
  (repeat' split) <;> simp [h]

@[simp] theorem State.peerBecomes_silent (d : StationNo) (after : PeerState) (h : s.Silent) :
    MuteWhenOff s.controller (s.peerBecomes d after).link s.responder := by
  unfold State.peerBecomes
  dsimp only
  split
  · exact h
  · simpa using State.deliverTransition_silent d (s.peer d).state after
      (s := (s.setPeer d { s.peer d with state := after }).post _) (by simpa [State.Silent] using h)

@[simp] theorem State.hearFrame_silent (d : StationNo) (h : s.Silent) :
    MuteWhenOff s.controller (s.hearFrame d).link s.responder := by
  have heard := State.peerBecomes_silent (s := s.peerHeard d) d .present (by simpa [State.Silent] using h)
  unfold State.hearFrame
  split
  · exact h
  · simpa using heard
  · simpa using heard
  all_goals simpa using h

@[simp] theorem State.hearBeacon_silent (b : Beacon) (h : s.Silent) :
    MuteWhenOff s.controller (s.hearBeacon b).link s.responder := by
  unfold State.hearBeacon
  dsimp only
  split
  · exact h
  · split
    · simpa using State.peerBecomes_silent b.source _ (s := s.setPeer b.source _) (by simpa [State.Silent] using h)
    · simpa using h

@[simp] theorem State.silenceOne_silent (h : s.Silent) : s.silenceOne.Silent := by
  unfold State.silenceOne
  split
  · exact h
  · simpa [State.Silent] using State.peerBecomes_silent _ .silent h

@[simp] theorem State.silenceAll_silent (n : Nat) (h : s.Silent) : (State.silenceAll n s).Silent := by
  induction n generalizing s with
  | zero => exact h
  | succ n ih =>
    unfold State.silenceAll
    split
    · exact h
    · exact ih (State.silenceOne_silent h)

@[simp] theorem State.noAnswer_silent (i : Tag) (h : s.Silent) : (s.noAnswer i).Silent := by
  have closed (x : Slot) (c : Course) : ((s.setSlot i x).closeExchange i c).Silent := by simpa [State.Silent] using h
  have := State.checkLeaving_silent (closed ((s.slot i).unanswered s.nl)
    (if s.nl < (s.slot i).noAnswerCount + 1 then .finish .peerNoAnswer else .wait s.bb))
  rw [State.noAnswer_eq]
  simpa [State.Silent] using this

@[simp] theorem State.takeDueFault_silent (h : s.Silent) : s.takeDueFault.Silent := by
  unfold State.takeDueFault
  split
  · exact State.report_silent _ h
  · exact h

@[simp] theorem State.takeDue_silent (h : s.Silent) : s.takeDue.Silent := by
  have age : (State.silenceAll 32 s).takeDueFault.takeDueAgeing.Silent := by
    have fault := State.takeDueFault_silent (State.silenceAll_silent 32 h)
    unfold State.takeDueAgeing
    split
    · simpa [State.Silent] using State.ageFrame_silent fault
    · exact fault
  unfold State.takeDue State.takeDueAnswer
  split
  · split
    · exact State.noAnswer_silent _ age
    · exact age
  · exact age

@[simp] theorem State.endHeard_silent (reserves : Bool) (h : s.Silent) : (s.endHeard reserves).Silent := by
  have gap : (s.enterGap .ordinary).Silent := State.enterGap_silent (s := s) .ordinary h
  unfold State.endHeard
  split
  · split
    · exact State.enterReserved_silent (s := s) h
    · exact gap
  · exact State.endReservation_silent gap
  · exact gap

@[simp] theorem State.endTail_silent (h : s.Silent) : s.endTail.Silent := by
  have head : (s.onLink fun l => { l with followTail := false }).Silent := h.imp rfl fun m => { m with }
  exact State.endHeard_silent true head

@[simp] theorem State.deliverFrame_silent (f : Frame) (replySlot : Bool) (h : s.Silent) :
    (s.deliverFrame f replySlot).Silent := by
  have heard (d : StationNo) : (s.hearFrame d).Silent := by
    simpa [State.Silent] using State.hearFrame_silent d h
  cases f with
  | segment g =>
    unfold State.deliverFrame
    dsimp only
    split
    · exact State.deliverSegment_silent g (heard _)
    · exact heard _
  | answer a =>
    unfold State.deliverFrame
    dsimp only
    split
    · simpa [State.Silent] using heard a.source
    · exact heard _
  | beacon b => simpa [State.Silent, State.deliverFrame] using State.hearBeacon_silent b h

@[simp] theorem State.receive_silent (f : Heard) (h : s.Silent) : (s.receive f).Silent := by
  have ended (reserves : Bool) : (s.endHeard reserves).Silent := State.endHeard_silent reserves h
  unfold State.receive
  split
  · simpa [State.Silent] using State.countBadFrame_silent (ended true)
  · split
    · exact State.report_silent _ (ended _)
    · exact ended _
  · split
    · exact State.report_silent _ (ended _)
    · exact State.deliverFrame_silent _ _ (ended _)

end Sys2Proof.Machine
end

section
/-! A station that may not send is silent after every command. -/

namespace Sys2Proof.Machine

variable {s t : State} {c : Instr}

/-- A host access keeps the silence when its effect does. -/
theorem State.hostTakes_silent {u : State} (h : s.Silent) (k : t.Silent) (e : s.hostTakes t = .next u) : u.Silent := by
  rcases State.hostTakes_cases e with ⟨-, rfl⟩ | ⟨-, rfl⟩
  · exact k
  · exact h

theorem State.reset_silent {t : State} (link : t.link.tx = none ∧ t.link.answer = none ∧ t.link.contending = false ∧
    t.link.begun = false ∧ t.link.answerBegun = false) (pending : t.controller.pendingBeacon = none)
    (responder : t.responder = Responder.reset) : t.Silent := by
  obtain ⟨tx, answer, contending, begun, answerBegun⟩ := link
  refine Mute.silent ⟨tx, answer, contending, begun, answerBegun, pending, fun j => ?_⟩
  exact congrArg Context.answerOwed (State.context_of_reset responder j)

theorem execJoin_silent (h : s.Silent) (e : execJoin s = .next t) : t.Silent := by
  refine State.hostTakes_silent h ?_ e
  split
  · rename_i offline
    have m : Mute s.controller s.link s.responder := h (by simp [offline, StationState.sends])
    split
    · exact Mute.silent { m with pending := rfl }
    · exact Mute.silent { m with }
  · exact h

theorem State.startLeaving_station (s : State) : s.startLeaving.controller.station = .leaving := by
  rw [State.startLeaving_eq, State.checkLeaving_station]

theorem execLeave_silent (h : s.Silent) (e : execLeave s = .next t) : t.Silent := by
  refine State.hostTakes_silent h ?_ e
  have leaving : MuteWhenOff s.startLeaving.controller s.startLeaving.link s.startLeaving.responder :=
    MuteWhenOff.of_sends (by simp [State.startLeaving_station, StationState.sends]) _ _
  split
  · exact h
  · exact h
  · rename_i listening
    have m : Mute s.controller s.link s.responder := h (by simp [listening, StationState.sends])
    exact Mute.silent { m with tx := rfl, answer := rfl, contending := rfl, begun := rfl, answerBegun := rfl }
  · rename_i isolated
    have m : Mute s.controller s.link s.responder := h (by simp [isolated, StationState.sends])
    exact Mute.silent { m with }
  all_goals exact leaving

theorem execQuiet_silent {arg : Byte} (h : s.Silent) (e : execQuiet arg s = .next t) : t.Silent := by
  refine State.hostTakes_silent h ?_ e
  split
  · split
    · exact MuteWhenOff.of_sends (by simp [State.enter, StationState.sends]) _ _
    · exact h
  · split
    · exact MuteWhenOff.of_sends (by simp [State.enter, StationState.sends]) _ _
    · exact h
  all_goals exact h

theorem execWake_silent (h : s.Silent) (e : execWake s = .next t) : t.Silent := by
  refine State.hostTakes_silent h ?_ e
  split
  · exact MuteWhenOff.of_sends (by simp [State.enter, StationState.sends]) _ _
  all_goals exact h

theorem execTransmitRegisterLoad_silent (h : s.Silent) (e : execTransmitRegisterLoad s = .next t) : t.Silent := by
  cases e
  split
  · exact h
  · rename_i may
    have on : s.controller.station.sends = true := by
      rw [← State.transmitterOn_eq]
      exact Bool.eq_true_of_not_eq_false fun off => may (.inr off)
    (repeat' split) <;> exact MuteWhenOff.of_sends (by simpa [State.dropPendingBeacon] using on) _ _

/-- A frame of this station that is on the line is one of a station that may send. -/
theorem State.Silent.sends_of_tx {f : TxFrame} (h : s.Silent) (tx : s.link.tx = some f) :
    s.controller.station.sends = true :=
  Bool.eq_true_of_not_eq_false fun off => nomatch (h off).tx.symm.trans tx

theorem execFrameSentInFull_silent (h : s.Silent) (e : execFrameSentInFull s = .next t) : t.Silent := by
  cases e
  split
  · split
    · have emptied : s.clearFaults.emptyAnswer.Silent :=
        State.emptyAnswer_silent (s := s.clearFaults) (State.clearFaults_silent (s := s) h)
      have gap : (s.clearFaults.emptyAnswer.enterGap .ordinary).Silent :=
        State.enterGap_silent (s := s.clearFaults.emptyAnswer) .ordinary emptied
      simpa [State.Silent] using State.checkLeaving_silent gap
    · split
      · rename_i tx
        exact MuteWhenOff.of_sends (by simpa using h.sends_of_tx tx) _ _
      · rename_i tx
        unfold State.beaconSent
        split
        · exact State.endLeaving_silent _
        · exact MuteWhenOff.of_sends (by simpa using h.sends_of_tx tx) _ _
      · exact h
  · exact h

theorem execFrameAbandoned_silent (h : s.Silent) (e : execFrameAbandoned s = .next t) : t.Silent := by
  cases e
  split
  · split
    · have emptied : s.emptyAnswer.Silent := State.emptyAnswer_silent (s := s) h
      have counted : (s.emptyAnswer.countFault .replySlot).Silent :=
        State.countFault_silent (s := s.emptyAnswer) .replySlot emptied
      simpa [State.Silent] using State.checkLeaving_silent counted
    · split
      · rename_i tx
        exact MuteWhenOff.of_sends (by simpa using h.sends_of_tx tx) _ _
      · rename_i tx
        refine MuteWhenOff.of_sends ?_ _ _
        unfold State.beaconAbandoned
        split <;> simpa using h.sends_of_tx tx
      · exact h
  · exact h

theorem execDominantBitFromAnotherStation_silent (h : s.Silent)
    (e : execDominantBitFromAnotherStation s = .next t) : t.Silent := by
  cases e
  have due := State.takeDue_silent h
  split
  · split
    · exact State.enterContention_silent id due
    · split
      · exact due
      · exact State.enterContention_silent (by simp) due
      · exact due.imp rfl fun m => { m with }
    · exact due.imp rfl fun m => { m with }
    all_goals exact due
  · exact due

/-- A placed ANSWER is one of a station that may send. -/
theorem execAnswerTransmissionStart_silent (h : s.Silent) (e : execAnswerTransmissionStart s = .next t) : t.Silent := by
  cases e
  split
  · rename_i ready
    exact MuteWhenOff.of_sends (by simpa [← State.transmitterOn_eq] using ready.2.2) _ _
  · exact State.takeDue_silent h

/-- An answer is owed only by a station that may send. -/
theorem execHoldPointExpiry_silent (h : s.Silent) (e : execHoldPointExpiry s = .next t) : t.Silent := by
  cases e
  split
  · exact h
  · dsimp only
    split
    · exact h.imp rfl fun m => { m with }
    · rename_i j owed
      refine MuteWhenOff.of_sends (Bool.eq_true_of_not_eq_false fun off => ?_) _ _
      have unowed : (s.context j).answerOwed = false := (h (by simpa using off)).owed j
      simp [(lowestOf_eq_some owed).1] at unowed

/-- Every command leaves a station that may not send silent. -/
theorem exec_silent (h : s.Silent) (e : exec c s = .next t) : t.Silent := by
  cases c with
  | push | popCompletion | popNotice | unassignedCommandCode | stagingWrite | peerIndexWrite | registerWrite
  | statusCapture | completionHeadCapture | noticeHeadCapture | peerRecordCapture =>
    refine State.hostTakes_silent h ?_ e
    (repeat' split) <;> simpa [State.Silent] using h
  | join => exact execJoin_silent h e
  | leave => exact execLeave_silent h e
  | quiet arg => exact execQuiet_silent h e
  | wake => exact execWake_silent h e
  | abort arg =>
    refine State.hostTakes_silent h ?_ e
    unfold State.abortSlot
    (repeat' split) <;> simp [State.Silent, h]
  | abortAll =>
    refine State.hostTakes_silent h ?_ e
    have ended : ((s.endSlots s.waiting .aborted).markSlots s.inFlight fun x => { x with abortMark := true }).Silent := by
      simpa [State.Silent] using h
    simpa [State.Silent] using State.withdrawSegment_silent ended
  | clearFlags =>
    refine State.hostTakes_silent h ?_ e
    exact h.imp rfl fun m => { m with }
  | configurationWrite addr data lanes =>
    refine State.hostTakes_silent h ?_ e
    unfold State.storeConfiguration
    (repeat' split) <;> exact h.imp rfl fun m => { m with }
  | softReset => exact State.hostTakes_silent h (State.reset_silent ⟨rfl, rfl, rfl, rfl, rfl⟩ rfl rfl) e
  | coldReset straps held =>
    cases e
    exact State.reset_silent ⟨rfl, rfl, rfl, rfl, rfl⟩ rfl rfl
  | transmitRegisterLoad => exact execTransmitRegisterLoad_silent h e
  | frameStart =>
    cases e
    split
    · rename_i start
      exact State.enterContention_silent (fun _ => start.2) (State.takeDue_silent h)
    · exact State.takeDue_silent h
  | contentionLost =>
    cases e
    have due := State.takeDue_silent h
    split
    · exact due.imp rfl fun m => { m with contending := rfl }
    · exact due
  | transmissionBegins =>
    cases e
    split
    · rename_i driving
      exact h.imp rfl fun m => nomatch driving.2.symm.trans m.contending
    · exact h
  | frameSentInFull => exact execFrameSentInFull_silent h e
  | frameAbandoned => exact execFrameAbandoned_silent h e
  | linkFault =>
    cases e
    exact State.takeDueFault_silent h
  | frameReceived f =>
    cases e
    have due := State.takeDue_silent h
    (repeat' split)
    · exact State.endTail_silent due
    · simpa [State.Silent] using State.checkLeaving_silent (State.receive_silent f due)
    · exact due
  | answerTransmissionStart => exact execAnswerTransmissionStart_silent h e
  | dominantBitFromAnotherStation => exact execDominantBitFromAnotherStation_silent h e
  | answerTimerExpiry =>
    cases e
    (repeat' split)
    · exact h
    · exact State.noAnswer_silent _ h
    · exact h
  | urgencyAgeing =>
    cases e
    split
    · exact State.ageFrame_silent (s := s) h
    · exact h
  | reservationTimeout =>
    cases e
    have gap : (s.enterGap .lateReply).Silent := State.enterGap_silent (s := s) .lateReply h
    split
    · exact State.endReservation_silent gap
    · exact h
  | idleGapElapsed =>
    cases e
    split
    · exact h.imp rfl fun m => { m with }
    · exact h
  | holdPointExpiry => exact execHoldPointExpiry_silent h e
  | contextLifetimeExpiry j =>
    cases e
    split
    · exact State.freeContext_silent j (by simpa [State.Silent] using h)
    · exact State.freeContext_silent j h
    all_goals exact h
  | listenTimerExpiry =>
    cases e
    split
    · exact MuteWhenOff.of_sends (by simp [State.endListening, State.enter, StationState.sends]) _ _
    · exact State.takeDue_silent h
  | beaconPeriodTick =>
    cases e
    have due := State.takeDue_silent h
    split
    · have aged : s.takeDue.agePeers.Silent := by simpa [State.Silent] using due
      simpa [State.Silent] using State.tickEffect_silent aged
    · exact due
  | silenceCountExpiry =>
    cases e
    exact State.silenceOne_silent h
  | targetBusArbiter =>
    cases e
    have taken (j : EntryNo) : (s.takeContext j).Silent := State.Silent.setContext h id
    (repeat' split)
    · exact h
    · exact h
    · simpa [State.Silent] using taken _
    · exact taken _
  | targetTermination signals =>
    cases e
    split
    · exact State.actOn_silent _ _ _ _ _ h
    · exact h
  | terminationWithdrawn =>
    cases e
    split <;> simpa [State.Silent] using h
  | targetMonitorExpiry =>
    cases e
    have stopped : s.stopMonitor.Silent := h
    split
    · exact State.endRun_silent (s := s.stopMonitor.idlePins) _ _ stopped
    · exact State.endRun_silent _ _ stopped
    · simpa [State.Silent] using stopped
    · exact h
  | dispatch | slotCompletionWrite | directCompletion | backoffExpiry =>
    cases e
    (repeat' split) <;> simpa [State.Silent] using h

end Sys2Proof.Machine
end

section
/-! Exchanges and contexts together: the statement. -/

namespace Sys2Proof.Machine

/-- A property that every command keeps is kept by every step: the queue of waiting commands is no part of it. -/
theorem step_keeps {P : State → Prop} (queue : ∀ s q, P s → P (s.setPending q))
    (command : ∀ c s t, P s → exec c s = .next t → P t) {s t : State} (h : P s) (e : step s = .next t) : P t := by
  unfold step at e
  split at e
  · cases e
    exact h
  · exact command _ _ _ (queue _ _ h) e

/-- Settles O59: each of the three parts is kept by every command, the exchanges because a station that may not send has nothing
loaded. -/
theorem everyStepKeepsExchangesAndContexts : Obligations.EveryStepKeepsExchangesAndContexts := by
  intro s t h e
  refine step_keeps (P := fun s => s.silentWhenOff ∧ s.exchangesKept ∧ s.cyclingKept ∧ s.keysKept) (fun _ _ h => h)
    (fun c s t h e => ?_) h e
  rw [State.silentWhenOff_iff, State.exchangesKept_iff, State.served_iff] at h ⊢
  obtain ⟨silent, exchanging, serving⟩ := h
  exact ⟨exec_silent silent e, exec_exchanging (State.silentWhenOff_iff.2 silent) exchanging e, exec_serving serving e⟩

end Sys2Proof.Machine
end

end

section

/-! SUPPORT. The station in order: what each operation leaves of the link unit's counts, of the configuration lock and of the own record, that
the cold state stays while RESETN is asserted, and the proof of their statement. As above, the proofs are elaborated one after another. -/

set_option Elab.async false

section
/-! The link unit's counts and the configuration lock: what each operation leaves of them, that the counts stay in their ranges and
the configuration locked exactly outside OFFLINE. -/

namespace Sys2Proof.Machine

/-! ### The parts -/

/-- The counts of the link unit that have a range, and whether it holds the own digest. -/
structure LinkCounts where
  faults : Nat
  crc    : Nat
  lost   : Nat
  digest : Bool

/-- The counts and the digest as the link unit has them. -/
def Link.counts (l : Link) : LinkCounts :=
  { faults := l.transmitFaults, crc := l.crcErrors, lost := l.lostCount, digest := l.ownDigest.isSome }

/-- Whether the configuration is locked, and whether the station state calls for it (R164). -/
def Controller.lock (c : Controller) : Bool × Bool := (c.locked, decide (c.station ≠ .offline))

/-- The counts are in their ranges, the configuration is locked exactly outside OFFLINE, and the digest is held exactly while it is:
`linkCountsKept` and `lockKept` over the parts they speak of. -/
structure Orderly (lock : Bool × Bool) (n : LinkCounts) : Prop where
  faults : n.faults ≤ 4
  crc    : n.crc ≤ 65535
  lost   : n.lost ≤ 4
  locked : lock.1 = lock.2
  digest : n.digest = lock.1

/-- The order of a state. -/
abbrev State.Ordered (s : State) : Prop := Orderly s.controller.lock s.link.counts

theorem State.ordered_iff {s : State} : s.linkCountsKept ∧ s.lockKept ↔ s.Ordered := by
  have locked : s.controller.lock.1 = s.controller.lock.2 ↔
      (s.controller.locked = true ↔ s.controller.station ≠ .offline) := by
    rw [Bool.eq_iff_iff]
    simp [Controller.lock]
  have digest : s.link.counts.digest = s.controller.lock.1 ↔
      (s.link.ownDigest.isSome = true ↔ s.controller.locked = true) := by
    rw [Bool.eq_iff_iff]
    simp [Controller.lock, Link.counts]
  constructor
  · rintro ⟨⟨faults, crc, lost⟩, lk, dg⟩
    exact ⟨faults, crc, lost, locked.2 lk, digest.2 dg⟩
  · rintro ⟨faults, crc, lost, lk, dg⟩
    exact ⟨⟨faults, crc, lost⟩, locked.1 lk, digest.1 dg⟩

variable (s : State)

/-! ### The counts across the operations -/

@[simp] theorem State.emptyTransmit_counts : s.emptyTransmit.link.counts = s.link.counts := rfl

@[simp] theorem State.emptyAnswer_counts : s.emptyAnswer.link.counts = s.link.counts := rfl

@[simp] theorem State.placeAnswer_counts (a : Answer) : (s.placeAnswer a).link.counts = s.link.counts := rfl

@[simp] theorem State.linkOff_counts : s.linkOff.link.counts = s.link.counts := rfl

@[simp] theorem State.enterContention_counts (b : Bool) : (s.enterContention b).link.counts = s.link.counts := rfl

@[simp] theorem State.enterGap_counts (k : GapKind) : (s.enterGap k).link.counts = s.link.counts := rfl

@[simp] theorem State.enterReserved_counts : s.enterReserved.link.counts = s.link.counts := rfl

@[simp] theorem State.endReservation_counts : s.endReservation.link.counts = s.link.counts := rfl

@[simp] theorem State.answerBusy_counts (g : Segment) : (s.answerBusy g).link.counts = s.link.counts := rfl

@[simp] theorem State.answerRefused_counts (g : Segment) (c : Cause) :
    (s.answerRefused g c).link.counts = s.link.counts := rfl

@[simp] theorem State.answerStored_counts (j : EntryNo) (r : RunResult) :
    (s.answerStored j r).link.counts = s.link.counts := rfl

@[simp] theorem State.withdraw_counts (i : Tag) : (s.withdraw i).link.counts = s.link.counts := by
  unfold State.withdraw
  split <;> rfl

@[simp] theorem State.withdrawSegment_counts : s.withdrawSegment.link.counts = s.link.counts := by
  unfold State.withdrawSegment
  split <;> rfl

@[simp] theorem State.queueBeacon_counts (p : PendingBeacon) : (s.queueBeacon p).link.counts = s.link.counts := by
  unfold State.queueBeacon
  split <;> rfl

@[simp] theorem State.checkLeaving_counts : s.checkLeaving.link.counts = s.link.counts := by
  unfold State.checkLeaving
  split <;> simp

@[simp] theorem State.takeAdmitted_counts (g : Segment) (e : Option EntryNo) (w : EntryNo) (len : Nat) :
    (s.takeAdmitted g e w len).link.counts = s.link.counts := by
  unfold State.takeAdmitted
  (repeat' split) <;> simp

@[simp] theorem State.treatAsNew_counts (g : Segment) (e : Option EntryNo) :
    (s.treatAsNew g e).link.counts = s.link.counts := by
  unfold State.treatAsNew
  (repeat' split) <;> simp

@[simp] theorem State.serveRepeat_counts (g : Segment) (j : EntryNo) :
    (s.serveRepeat g j).link.counts = s.link.counts := by
  unfold State.serveRepeat
  dsimp only
  (repeat' split) <;> simp

@[simp] theorem State.supersede_counts (g : Segment) (j : EntryNo) :
    (s.supersede g j).link.counts = s.link.counts := by
  unfold State.supersede
  (repeat' split) <;> simp

@[simp] theorem State.serveUnknown_counts (g : Segment) : (s.serveUnknown g).link.counts = s.link.counts := by
  unfold State.serveUnknown
  (repeat' split) <;> simp

@[simp] theorem State.lookup_counts (g : Segment) : (s.lookup g).link.counts = s.link.counts := by
  unfold State.lookup
  dsimp only
  (repeat' split) <;> simp

@[simp] theorem State.wakeReport_counts (g : Segment) : (s.wakeReport g).link.counts = s.link.counts := by
  simp [State.wakeReport]

@[simp] theorem State.deliverSegment_counts (g : Segment) : (s.deliverSegment g).link.counts = s.link.counts := by
  unfold State.deliverSegment
  (repeat' split) <;> simp

@[simp] theorem State.cyclesEnd_counts (j : EntryNo) (r : RunResult) :
    (s.cyclesEnd j r).link.counts = s.link.counts := by
  unfold State.cyclesEnd
  dsimp only
  (repeat' split) <;> simp

@[simp] theorem State.failRun_counts (j : EntryNo) (cause : Cause) :
    (s.failRun j cause).link.counts = s.link.counts := by
  simp [State.failRun, State.endRun]

@[simp] theorem State.actOn_counts (j : EntryNo) (h : HeldWindow) (y : Cycle) (data : BitVec 32) (k : TerminationKind) :
    (s.actOn j h y data k).link.counts = s.link.counts := by
  cases k with
  | acknowledge w => simp only [State.actOn, State.takeAcknowledge]; split <;> simp [State.endRun]
  | retry => simp only [State.actOn, State.takeRetry]; split <;> simp
  | error => simp [State.actOn]

@[simp] theorem State.deliverTransition_counts (d : StationNo) (before after : PeerState) :
    (s.deliverTransition d before after).link.counts = s.link.counts := by
  unfold State.deliverTransition State.quietReaches State.endingReaches
  (repeat' split) <;> simp

@[simp] theorem State.peerBecomes_counts (d : StationNo) (after : PeerState) :
    (s.peerBecomes d after).link.counts = s.link.counts := by
  unfold State.peerBecomes
  dsimp only
  split <;> simp

@[simp] theorem State.hearFrame_counts (d : StationNo) : (s.hearFrame d).link.counts = s.link.counts := by
  unfold State.hearFrame
  split <;> simp

@[simp] theorem State.hearBeacon_counts (b : Beacon) : (s.hearBeacon b).link.counts = s.link.counts := by
  unfold State.hearBeacon
  (repeat' split) <;> simp

@[simp] theorem State.silenceOne_counts : s.silenceOne.link.counts = s.link.counts := by
  unfold State.silenceOne
  split <;> simp

@[simp] theorem State.silenceAll_counts (n : Nat) : (State.silenceAll n s).link.counts = s.link.counts := by
  induction n generalizing s with
  | zero => rfl
  | succ n ih =>
    unfold State.silenceAll
    split
    · rfl
    · rw [ih, State.silenceOne_counts]

@[simp] theorem State.report_counts (k : NoticeKind) : (s.report k).link.counts = s.link.counts := by
  unfold State.report
  split <;> rfl

@[simp] theorem State.noAnswer_counts (i : Tag) : (s.noAnswer i).link.counts = s.link.counts := by
  simp [State.noAnswer]

@[simp] theorem State.endHeard_counts (reserves : Bool) : (s.endHeard reserves).link.counts = s.link.counts := by
  unfold State.endHeard
  (repeat' split) <;> simp

@[simp] theorem State.endTail_counts : s.endTail.link.counts = s.link.counts :=
  (s.onLink fun l => { l with followTail := false }).endHeard_counts true

@[simp] theorem State.deliverFrame_counts (f : Frame) (replySlot : Bool) :
    (s.deliverFrame f replySlot).link.counts = s.link.counts := by
  unfold State.deliverFrame
  dsimp only
  (repeat' split) <;> simp

@[simp] theorem State.tickEffect_counts : s.tickEffect.link.counts = s.link.counts := by
  unfold State.tickEffect State.endListening
  (repeat' split) <;> simp

/-! ### The lock across the operations -/

@[simp] theorem State.queueBeacon_lock (p : PendingBeacon) : (s.queueBeacon p).controller.lock = s.controller.lock := by
  unfold State.queueBeacon
  split <;> rfl

@[simp] theorem State.checkLeaving_lock : s.checkLeaving.controller.lock = s.controller.lock := by
  unfold State.checkLeaving
  split <;> simp

@[simp] theorem State.dropPendingBeacon_lock : s.dropPendingBeacon.controller.lock = s.controller.lock := rfl

@[simp] theorem Controller.lock_beaconSequence (c : Controller) (n : Byte) :
    Controller.lock
      { station := c.station, ownNumber := c.ownNumber, parameters := c.parameters, locked := c.locked,
        faultDetail := c.faultDetail, listenTimer := c.listenTimer, beaconTimer := c.beaconTimer,
        pendingBeacon := c.pendingBeacon, beaconSequence := n } = c.lock := rfl

@[simp] theorem State.beaconAbandoned_lock (b : OwnBeacon) : (s.beaconAbandoned b).controller.lock = s.controller.lock := by
  unfold State.beaconAbandoned
  split <;> rfl

/-- A change of the station state on the span leaves the lock. -/
theorem State.enter_lock {st : StationState} (on : s.controller.station ≠ .offline) (stays : st ≠ .offline) :
    (s.enter st).controller.lock = s.controller.lock := by
  simp [State.enter, Controller.lock, on, stays]

theorem State.endListening_lock (on : s.controller.station ≠ .offline) :
    s.endListening.controller.lock = s.controller.lock := by
  rw [State.endListening, State.queueBeacon_lock]
  simp [State.enter, Controller.lock, on]

@[simp] theorem State.deliverSegment_lock (g : Segment) :
    (s.deliverSegment g).controller.lock = s.controller.lock := by
  have woken {l : Urgency} (quiet : s.controller.station = .quiet l) :
      (s.wakeReport g).controller.lock = s.controller.lock := by
    simp [State.wakeReport, State.enter_lock, quiet]
  unfold State.deliverSegment
  split
  case _ => rfl
  case _ => rfl
  case _ => rfl
  case _ => simp
  case _ => split <;> simp
  case _ l quiet => (repeat' split) <;> simp [woken quiet]

@[simp] theorem State.report_lock (k : NoticeKind) : (s.report k).controller.lock = s.controller.lock := by
  unfold State.report
  split
  · rename_i on
    have onSpan : s.controller.station ≠ .offline := fun off => by simp [State.receiverOn, off] at on
    simp [State.isolate_eq, Controller.lock, onSpan]
  · rfl

@[simp] theorem State.noAnswer_lock (i : Tag) : (s.noAnswer i).controller.lock = s.controller.lock := by
  simp [State.noAnswer]

@[simp] theorem State.endRun_lock (j : EntryNo) (r : RunResult) :
    (s.endRun j r).controller.lock = s.controller.lock := by
  simp [State.endRun]

@[simp] theorem State.actOn_lock (j : EntryNo) (h : HeldWindow) (y : Cycle) (data : BitVec 32) (k : TerminationKind) :
    (s.actOn j h y data k).controller.lock = s.controller.lock := by
  cases k with
  | acknowledge w => simp only [State.actOn, State.takeAcknowledge]; split <;> simp
  | retry => simp only [State.actOn, State.takeRetry]; split <;> simp [State.failRun]
  | error => simp [State.actOn, State.failRun]

@[simp] theorem State.deliverFrame_lock (f : Frame) (replySlot : Bool) :
    (s.deliverFrame f replySlot).controller.lock = s.controller.lock := by
  unfold State.deliverFrame
  dsimp only
  (repeat' split) <;> simp

@[simp] theorem State.tickEffect_lock : s.tickEffect.controller.lock = s.controller.lock := by
  unfold State.tickEffect
  split
  · rename_i listening
    split
    · split
      · exact s.endListening_lock (by simp [listening])
      · rfl
    · rfl
  all_goals simp

end Sys2Proof.Machine
end

section
/-! The counts stay in their ranges and the configuration locked, command by command. -/

namespace Sys2Proof.Machine

variable {s t : State} {c : Instr}

/-! ### Consequences due and frames heard -/

@[simp] theorem State.takeDueFault_parts (s : State) :
    s.takeDueFault.link.counts = s.link.counts ∧ s.takeDueFault.controller.lock = s.controller.lock := by
  unfold State.takeDueFault
  split <;> simp

@[simp] theorem State.takeDueAnswer_parts (s : State) :
    s.takeDueAnswer.link.counts = s.link.counts ∧ s.takeDueAnswer.controller.lock = s.controller.lock := by
  unfold State.takeDueAnswer
  (repeat' split) <;> simp

/-- An ageing that is due takes the lost-contention count back to 0, so that none is due afterwards (R135). -/
theorem State.takeDueAgeing_ordered (h : s.Ordered) :
    s.takeDueAgeing.Ordered ∧ s.takeDueAgeing.link.counts.lost < 4 := by
  unfold State.takeDueAgeing
  split
  · exact ⟨⟨h.faults, h.crc, by simp [State.ageFrame, Link.counts], h.locked, h.digest⟩,
      by simp [State.ageFrame, Link.counts]⟩
  · rename_i due
    exact ⟨h, Nat.lt_of_not_le fun le => due (decide_eq_true le)⟩

theorem State.takeDue_ordered (h : s.Ordered) : s.takeDue.Ordered ∧ s.takeDue.link.counts.lost < 4 := by
  have fault : (State.silenceAll 32 s).takeDueFault.Ordered := by simpa [State.Ordered] using h
  simpa [State.Ordered, State.takeDue] using State.takeDueAgeing_ordered fault

theorem State.receive_ordered (f : Heard) (h : s.Ordered) : (s.receive f).Ordered := by
  unfold State.receive
  split
  · have ended : (s.endHeard true).Ordered := by simpa [State.Ordered] using h
    refine ⟨ended.faults, ?_, ended.lost, ended.locked, ended.digest⟩
    exact Nat.min_le_right _ _
  all_goals (repeat' split) <;> simpa [State.Ordered] using h

/-! ### Every command -/

/-- A host access keeps the order when its effect does. -/
theorem State.hostTakes_ordered {u : State} (h : s.Ordered) (k : t.Ordered) (e : s.hostTakes t = .next u) :
    u.Ordered := by
  rcases State.hostTakes_cases e with ⟨-, rfl⟩ | ⟨-, rfl⟩
  · exact k
  · exact h

/-- With the lock and the digest given up in OFFLINE the order stays. -/
theorem State.Ordered.offline (h : s.Ordered) (faults : t.link.transmitFaults = s.link.transmitFaults)
    (crc : t.link.crcErrors = s.link.crcErrors) (lost : t.link.lostCount = s.link.lostCount)
    (locked : t.controller.locked = false) (station : t.controller.station = .offline)
    (digest : t.link.ownDigest = none) : t.Ordered := by
  refine ⟨?_, ?_, ?_, ?_, ?_⟩
  · exact le_of_eq_of_le faults h.faults
  · exact le_of_eq_of_le crc h.crc
  · exact le_of_eq_of_le lost h.lost
  · simp [Controller.lock, locked, station]
  · simp [Controller.lock, Link.counts, locked, digest]

theorem execLeave_ordered (h : s.Ordered) (e : execLeave s = .next t) : t.Ordered := by
  refine State.hostTakes_ordered h ?_ e
  have leaving (on : s.controller.station ≠ .offline) : (s.startLeaving.withResult .accepted).Ordered := by
    have counts : s.startLeaving.link.counts = s.link.counts := by
      rw [State.startLeaving_eq, State.checkLeaving_counts]
      split <;> rfl
    have lock : s.startLeaving.controller.lock = s.controller.lock := by
      rw [State.startLeaving_eq, State.checkLeaving_lock]
      simp [Controller.lock, on]
    simpa [State.Ordered, counts, lock] using h
  split
  · exact h
  · exact h
  · exact h.offline rfl rfl rfl rfl rfl rfl
  · exact h.offline rfl rfl rfl rfl rfl rfl
  · rename_i active
    exact leaving (by simp [active])
  · rename_i quiet
    exact leaving (by simp [quiet])

theorem execJoin_ordered (h : s.Ordered) (e : execJoin s = .next t) : t.Ordered := by
  refine State.hostTakes_ordered h ?_ e
  split
  · split
    · exact ⟨Nat.zero_le _, h.crc, h.lost, by simp [Controller.lock, State.joinSpan], rfl⟩
    · exact h
  · exact h

theorem execQuiet_ordered {arg : Byte} (h : s.Ordered) (e : execQuiet arg s = .next t) : t.Ordered := by
  refine State.hostTakes_ordered h ?_ e
  have slots : s.quietSlots.link.counts = s.link.counts ∧ s.quietSlots.controller = s.controller := by
    simp [State.quietSlots]
  split
  · rename_i active
    split
    · have entered (l : Urgency) := s.quietSlots.enter_lock (st := .quiet l) (by simp [slots, active]) (by simp)
      simpa [State.Ordered, entered, slots] using h
    · exact h
  · rename_i quiet
    split
    · have entered (l : Urgency) := s.enter_lock (st := .quiet l) (by simp [quiet]) (by simp)
      simpa [State.Ordered, entered] using h
    · exact h
  all_goals exact h

theorem execWake_ordered (h : s.Ordered) (e : execWake s = .next t) : t.Ordered := by
  refine State.hostTakes_ordered h ?_ e
  split
  · rename_i quiet
    have entered := s.enter_lock (st := .active) (by simp [quiet]) (by simp)
    simpa [State.Ordered, entered] using h
  all_goals exact h

theorem State.clearFaults_ordered (h : s.Ordered) : s.clearFaults.Ordered :=
  ⟨Nat.zero_le _, h.crc, h.lost, h.locked, h.digest⟩

theorem execFrameSentInFull_ordered (h : s.Ordered) (e : execFrameSentInFull s = .next t) : t.Ordered := by
  cases e
  have cleared := State.clearFaults_ordered h
  split
  · split
    · simpa [State.Ordered] using cleared
    · split
      · simpa [State.Ordered] using cleared
      · unfold State.beaconSent
        split
        · exact cleared.offline rfl rfl rfl rfl rfl rfl
        · simpa [State.Ordered] using cleared
      · exact h
  · exact h

theorem State.countFault_ordered (l : Layout) (h : s.Ordered) : (s.countFault l).Ordered :=
  ⟨Nat.min_le_right _ _, h.crc, h.lost, h.locked, h.digest⟩

theorem execFrameAbandoned_ordered (h : s.Ordered) (e : execFrameAbandoned s = .next t) : t.Ordered := by
  cases e
  have emptied : (s.emptyTransmit.countFault .contended).Ordered := State.countFault_ordered (s := s.emptyTransmit) _ h
  split
  · split
    · simpa [State.Ordered] using State.countFault_ordered (s := s.emptyAnswer) .replySlot h
    · split
      · simpa [State.Ordered] using emptied
      · simpa [State.Ordered] using emptied
      · exact h
  · exact h

theorem State.reset_ordered {t : State} (faults : t.link.transmitFaults = 0) (crc : t.link.crcErrors ≤ 65535)
    (lost : t.link.lostCount = 0) (locked : t.controller.locked = false) (station : t.controller.station = .offline)
    (digest : t.link.ownDigest = none) : t.Ordered :=
  ⟨by simp [Link.counts, faults], crc, by simp [Link.counts, lost], by simp [Controller.lock, locked, station],
    by simp [Controller.lock, Link.counts, locked, digest]⟩

theorem execTransmitRegisterLoad_ordered (h : s.Ordered) (e : execTransmitRegisterLoad s = .next t) : t.Ordered := by
  cases e
  have loaded (f : TxFrame) (u : Urgency) : (s.loadFrame f u).Ordered :=
    ⟨h.faults, h.crc, Nat.zero_le _, h.locked, h.digest⟩
  (repeat' split)
  · exact h
  · exact loaded _ _
  · exact loaded _ _
  all_goals exact h

/-- A contention lost with none of its ageings due counts up to 4 (R135). -/
theorem State.loseContention_ordered (h : s.Ordered) (lost : s.link.counts.lost < 4) :
    (if s.link.medium = .contention ∧ s.link.contending then
      s.onLink fun l => { l with contending := false, lostCount := l.lostCount + 1 }
    else s).Ordered := by
  split
  · exact ⟨h.faults, h.crc, lost, h.locked, h.digest⟩
  · exact h

/-- Every command keeps the counts in their ranges and the configuration locked exactly outside OFFLINE. -/
theorem exec_ordered (h : s.Ordered) (e : exec c s = .next t) : t.Ordered := by
  cases c with
  | push | popCompletion | popNotice | unassignedCommandCode | stagingWrite | peerIndexWrite | registerWrite
  | statusCapture | completionHeadCapture | noticeHeadCapture | peerRecordCapture =>
    refine State.hostTakes_ordered h ?_ e
    (repeat' split) <;> simpa [State.Ordered] using h
  | join => exact execJoin_ordered h e
  | leave => exact execLeave_ordered h e
  | quiet arg => exact execQuiet_ordered h e
  | wake => exact execWake_ordered h e
  | abort arg =>
    refine State.hostTakes_ordered h ?_ e
    unfold State.abortSlot
    (repeat' split) <;> simpa [State.Ordered] using h
  | abortAll =>
    refine State.hostTakes_ordered h ?_ e
    simpa [State.Ordered] using h
  | clearFlags =>
    refine State.hostTakes_ordered h ?_ e
    exact ⟨h.faults, Nat.zero_le _, h.lost, h.locked, h.digest⟩
  | configurationWrite addr data lanes =>
    refine State.hostTakes_ordered h ?_ e
    unfold State.storeConfiguration
    (repeat' split) <;> exact h
  | softReset =>
    have reset : s.softReset.Ordered := State.reset_ordered rfl h.crc rfl rfl rfl rfl
    exact State.hostTakes_ordered h reset e
  | coldReset straps held =>
    cases e
    exact State.reset_ordered rfl (Nat.zero_le _) rfl rfl rfl rfl
  | transmitRegisterLoad => exact execTransmitRegisterLoad_ordered h e
  | contentionLost =>
    cases e
    obtain ⟨due, lost⟩ := State.takeDue_ordered h
    exact State.loseContention_ordered due lost
  | urgencyAgeing =>
    cases e
    exact (State.takeDueAgeing_ordered h).1
  | frameSentInFull => exact execFrameSentInFull_ordered h e
  | frameAbandoned => exact execFrameAbandoned_ordered h e
  | linkFault =>
    cases e
    simpa [State.Ordered] using h
  | frameReceived f =>
    cases e
    obtain ⟨due, -⟩ := State.takeDue_ordered h
    (repeat' split)
    · simpa [State.Ordered] using due
    · simpa [State.Ordered] using State.receive_ordered f due
    · exact due
  | listenTimerExpiry =>
    cases e
    obtain ⟨due, -⟩ := State.takeDue_ordered h
    split
    · rename_i listening
      have lock := s.takeDue.agePeers.endListening_lock (by simp [listening.1])
      have counts : s.takeDue.agePeers.endListening.link.counts = s.takeDue.link.counts := by simp [State.endListening]
      simpa [State.Ordered, lock, counts] using due
    · exact due
  | frameStart | answerTransmissionStart | dominantBitFromAnotherStation =>
    cases e
    obtain ⟨due, -⟩ := State.takeDue_ordered h
    generalize s.takeDue = u at due ⊢
    (repeat' split) <;> exact ⟨due.faults, due.crc, due.lost, due.locked, due.digest⟩
  | beaconPeriodTick =>
    cases e
    obtain ⟨due, -⟩ := State.takeDue_ordered h
    split
    · simpa [State.Ordered] using due
    · exact due
  | transmissionBegins | idleGapElapsed =>
    cases e
    split
    · exact ⟨h.faults, h.crc, h.lost, h.locked, h.digest⟩
    · exact h
  | holdPointExpiry =>
    cases e
    dsimp only
    (repeat' split) <;> simpa [State.Ordered] using h
  | silenceCountExpiry =>
    cases e
    simpa [State.Ordered] using h
  | targetMonitorExpiry =>
    cases e
    (repeat' split) <;> simpa [State.Ordered, State.failRun, State.endRun] using h
  | dispatch | slotCompletionWrite | directCompletion | answerTimerExpiry | backoffExpiry
  | reservationTimeout | contextLifetimeExpiry | targetBusArbiter | targetTermination
  | terminationWithdrawn =>
    cases e
    (repeat' split) <;> simpa [State.Ordered] using h

end Sys2Proof.Machine
end

section
/-! The own record alone is SELF: what each operation leaves of the records that are. -/

namespace Sys2Proof.Machine

/-- Which records of a peer table are SELF. -/
def selfRecords (p : Vector PeerRecord 32) (d : StationNo) : Bool := decide (p[d].state = .self)

/-- The own record alone is SELF: `ownRecordKept` over the records that are. -/
structure State.SelfAlone (s : State) : Prop where
  records : selfRecords s.peers = fun d => decide (d = s.own)

theorem State.ownRecordKept_iff {s : State} : s.ownRecordKept ↔ s.SelfAlone := by
  have records : s.ownRecordKept ↔ selfRecords s.peers = fun d => decide (d = s.own) := by
    simp only [funext_iff, selfRecords, decide_eq_decide]
    rfl
  exact ⟨fun h => ⟨records.1 h⟩, fun h => records.2 h.records⟩

theorem selfRecords_clearedPeers (own : StationNo) : selfRecords (clearedPeers own) = fun d => decide (d = own) := by
  funext d
  simp [selfRecords, clearedPeers, PeerRecord.cleared]

/-- Two tables whose records are SELF alike. -/
theorem selfRecords_congr {s t : State} (h : ∀ d, ((t.peer d).state = .self ↔ (s.peer d).state = .self)) :
    selfRecords t.peers = selfRecords s.peers := by
  funext d
  simpa [selfRecords, State.peer] using h d

variable {s t : State}

theorem State.setPeer_selfRecords {d : StationNo} {p : PeerRecord}
    (h : p.state = .self ↔ (s.peer d).state = .self) : selfRecords (s.setPeer d p).peers = selfRecords s.peers := by
  refine selfRecords_congr fun e => ?_
  rw [State.peer_setPeer]
  split
  · subst e
    exact h
  · rfl

@[simp] theorem State.peerHeard_selfRecords (d : StationNo) : selfRecords (s.peerHeard d).peers = selfRecords s.peers :=
  State.setPeer_selfRecords Iff.rfl

theorem State.peerBecomes_selfRecords {d : StationNo} {after : PeerState} (other : (s.peer d).state ≠ .self)
    (h : after ≠ .self) : selfRecords (s.peerBecomes d after).peers = selfRecords s.peers := by
  refine selfRecords_congr fun e => ?_
  rw [State.peer_peerBecomes]
  split
  · subst e
    exact iff_of_false h other
  · rfl

@[simp] theorem State.hearFrame_selfRecords (d : StationNo) : selfRecords (s.hearFrame d).peers = selfRecords s.peers := by
  unfold State.hearFrame
  split
  · rfl
  case _ absent =>
    rw [State.peerBecomes_selfRecords (by simp [State.peerHeard, State.peer_setPeer, absent]) (by simp)]
    exact State.peerHeard_selfRecords d
  case _ silent =>
    rw [State.peerBecomes_selfRecords (by simp [State.peerHeard, State.peer_setPeer, silent]) (by simp)]
    exact State.peerHeard_selfRecords d
  all_goals exact State.peerHeard_selfRecords d

/-- A state code names PRESENT, QUIET, MISMATCHED or ABSENT. -/
theorem State.beaconCallsFor_ne_self {b : Beacon} {st : PeerState} (h : s.beaconCallsFor b = some st) : st ≠ .self := by
  rintro rfl
  unfold State.beaconCallsFor at h
  (repeat' split at h) <;> cases h

@[simp] theorem State.hearBeacon_selfRecords (b : Beacon) : selfRecords (s.hearBeacon b).peers = selfRecords s.peers := by
  unfold State.hearBeacon
  split
  · rfl
  · rename_i other
    have kept : selfRecords (s.setPeer b.source
        { s.peer b.source with silenceCount := 0, lastSequence := some b.sequence }).peers = selfRecords s.peers :=
      State.setPeer_selfRecords Iff.rfl
    dsimp only
    split
    · rename_i st called
      rw [State.peerBecomes_selfRecords (by simpa [State.peer_setPeer] using other) (State.beaconCallsFor_ne_self called)]
      exact kept
    · exact kept

@[simp] theorem State.agePeers_selfRecords : selfRecords s.agePeers.peers = selfRecords s.peers := by
  refine selfRecords_congr fun d => ?_
  rw [State.peer_agePeers]
  split <;> rfl

@[simp] theorem State.silenceOne_selfRecords : selfRecords s.silenceOne.peers = selfRecords s.peers := by
  unfold State.silenceOne
  split
  · rfl
  · rename_i d first
    have due : s.silenceDue d = true := List.find?_some first
    refine State.peerBecomes_selfRecords (fun own => ?_) (by simp)
    simp [State.silenceDue, own, PeerState.aged] at due

@[simp] theorem State.silenceAll_selfRecords (n : Nat) :
    selfRecords (State.silenceAll n s).peers = selfRecords s.peers := by
  induction n generalizing s with
  | zero => rfl
  | succ n ih =>
    unfold State.silenceAll
    split
    · rfl
    · rw [ih, State.silenceOne_selfRecords]

/-! ### Every command -/

theorem State.own_eq (k : s.Keeps t) : t.own = s.own := by
  obtain ⟨fixed, -, -⟩ := k
  exact (Prod.mk.inj fixed).1

/-- What keeps the own number and the SELF records keeps the own record alone SELF. -/
theorem State.SelfAlone.congr (h : s.SelfAlone) (own : t.own = s.own)
    (records : selfRecords t.peers = selfRecords s.peers) : t.SelfAlone := by
  exact ⟨by rw [records, own, h.records]⟩

/-- Clearing the table leaves the own record alone SELF (R157). -/
theorem State.selfAlone_of_cleared {own : StationNo} (cleared : t.peers = clearedPeers own) (same : t.own = own) :
    t.SelfAlone := by
  exact ⟨by rw [cleared, selfRecords_clearedPeers, same]⟩

@[simp] theorem State.clearPeers_selfAlone : s.clearPeers.SelfAlone :=
  State.selfAlone_of_cleared (own := s.own) (State.setPeers_peers _ _) (by simp [State.own])

@[simp] theorem State.enter_selfAlone (st : StationState) : (s.enter st).SelfAlone ↔ s.SelfAlone :=
  ⟨fun h => h.congr rfl rfl, fun h => h.congr rfl rfl⟩

@[simp] theorem State.unlock_selfAlone : s.unlock.SelfAlone ↔ s.SelfAlone :=
  ⟨fun h => h.congr rfl rfl, fun h => h.congr rfl rfl⟩

@[simp] theorem State.post_selfAlone (n : Notice) : (s.post n).SelfAlone ↔ s.SelfAlone :=
  ⟨fun h => h.congr rfl rfl, fun h => h.congr rfl rfl⟩

@[simp] theorem State.withResult_selfAlone (r : CommandResult) : (s.withResult r).SelfAlone ↔ s.SelfAlone :=
  ⟨fun h => h.congr rfl rfl, fun h => h.congr rfl rfl⟩

theorem State.isolate_selfAlone (s : State) (k : NoticeKind) : (s.isolate k).SelfAlone :=
  State.selfAlone_of_cleared (own := s.own) rfl rfl

theorem State.report_selfAlone {k : NoticeKind} (h : s.SelfAlone) : (s.report k).SelfAlone := by
  unfold State.report
  split
  · exact s.isolate_selfAlone k
  · exact h

theorem State.endLeaving_selfAlone (s : State) : s.endLeaving.SelfAlone := by
  simp [State.endLeaving]

theorem State.takeDueFault_selfAlone (h : s.SelfAlone) : s.takeDueFault.SelfAlone := by
  unfold State.takeDueFault
  split
  · exact State.report_selfAlone h
  · exact h

theorem State.takeDue_selfAlone (h : s.SelfAlone) : s.takeDue.SelfAlone := by
  have silent : (State.silenceAll 32 s).SelfAlone :=
    h.congr (State.own_eq (s.silenceAll_keeps 32)) (State.silenceAll_selfRecords 32)
  have fault := State.takeDueFault_selfAlone silent
  have kept := (State.takeDueAgeing_keeps (State.silenceAll 32 s).takeDueFault).trans (State.takeDueAnswer_keeps _)
  exact fault.congr (State.own_eq kept) (by simp [State.takeDue])

theorem State.endHeard_selfAlone (reserves : Bool) (h : s.SelfAlone) : (s.endHeard reserves).SelfAlone :=
  h.congr (State.own_eq (s.endHeard_keeps reserves)) (by simp)

theorem State.deliverFrame_selfAlone (f : Frame) (replySlot : Bool) (h : s.SelfAlone) :
    (s.deliverFrame f replySlot).SelfAlone := by
  refine h.congr (State.own_eq (s.deliverFrame_keeps f replySlot)) ?_
  unfold State.deliverFrame
  dsimp only
  (repeat' split) <;> simp

theorem State.receive_selfAlone (f : Heard) (h : s.SelfAlone) : (s.receive f).SelfAlone := by
  have ended (reserves : Bool) := State.endHeard_selfAlone reserves h
  unfold State.receive
  split
  · exact (ended true).congr rfl rfl
  · split
    · exact State.report_selfAlone (ended false)
    · exact ended false
  · split
    · exact State.report_selfAlone (ended _)
    · exact State.deliverFrame_selfAlone _ _ (ended _)

theorem State.hostTakes_selfAlone {u : State} (h : s.SelfAlone) (k : t.SelfAlone) (e : s.hostTakes t = .next u) :
    u.SelfAlone := by
  rcases State.hostTakes_cases e with ⟨-, rfl⟩ | ⟨-, rfl⟩
  · exact k
  · exact h

theorem execLeave_selfAlone (h : s.SelfAlone) (e : execLeave s = .next t) : t.SelfAlone := by
  refine State.hostTakes_selfAlone h ?_ e
  have leaving : s.startLeaving.SelfAlone := h.congr (State.own_eq s.startLeaving_keeps) (by simp)
  split <;> simp [h, leaving]

theorem State.beaconSent_selfAlone (b : OwnBeacon) (h : s.SelfAlone) : (s.beaconSent b).SelfAlone := by
  have kept := State.own_eq (s.beaconSent_keeps b)
  revert kept
  unfold State.beaconSent
  split
  · exact fun _ => State.endLeaving_selfAlone s
  · exact fun kept => h.congr kept (by simp)

theorem execFrameSentInFull_selfAlone (h : s.SelfAlone) (own : t.own = s.own) (e : execFrameSentInFull s = .next t) :
    t.SelfAlone := by
  cases e
  revert own
  split
  · split
    · exact fun own => h.congr own (by simp)
    · split
      · exact fun own => h.congr own (by simp)
      · intro _
        exact State.beaconSent_selfAlone _ (h.congr rfl rfl)
      · exact fun _ => h
  · exact fun _ => h

theorem execFrameReceived_selfAlone {f : Heard} (h : s.SelfAlone) (e : execFrameReceived f s = .next t) :
    t.SelfAlone := by
  cases e
  have due := State.takeDue_selfAlone h
  split
  · split
    · exact due.congr (State.own_eq s.takeDue.endTail_keeps) (by simp [State.endTail])
    · exact (State.receive_selfAlone f due).congr (State.own_eq (s.takeDue.receive f).checkLeaving_keeps) (by simp)
  · exact due

theorem execListenTimerExpiry_selfAlone (h : s.SelfAlone) (own : t.own = s.own)
    (e : execListenTimerExpiry s = .next t) : t.SelfAlone := by
  cases e
  have due := State.takeDue_selfAlone h
  have same : s.takeDue.own = s.own := State.own_eq s.takeDue_keeps
  refine due.congr (own.trans same.symm) ?_
  split <;> simp

theorem execBeaconPeriodTick_selfAlone (h : s.SelfAlone) (own : t.own = s.own)
    (e : execBeaconPeriodTick s = .next t) : t.SelfAlone := by
  cases e
  have due := State.takeDue_selfAlone h
  have same : s.takeDue.own = s.own := State.own_eq s.takeDue_keeps
  refine due.congr (own.trans same.symm) ?_
  split <;> simp

theorem State.abortSlot_peers (s : State) (i : Tag) : (s.abortSlot i).peers = s.peers := by
  unfold State.abortSlot
  (repeat' split) <;> simp

theorem State.actOn_peers (s : State) (j : EntryNo) (h : HeldWindow) (y : Cycle) (data : BitVec 32)
    (k : TerminationKind) : (s.actOn j h y data k).peers = s.peers := by
  cases k <;> simp [State.actOn]

theorem State.storeConfiguration_peers (s : State) (r : HostRegister) (data : Word) (lanes : Lanes) :
    (s.storeConfiguration r data lanes).peers = s.peers := by
  rw [State.storeConfiguration_frame]

/-- Every command keeps the own record alone SELF. -/
theorem exec_selfAlone {c : Instr} (h : s.SelfAlone) (e : exec c s = .next t) : t.SelfAlone := by
  by_cases cold : ∀ straps held, c ≠ .coldReset straps held
  · have own : t.own = s.own := (exec_changesOnlyItsOwn cold e).own
    have due := State.takeDue_selfAlone h
    cases c with
    | leave => exact execLeave_selfAlone h e
    | softReset =>
      have reset : s.softReset.SelfAlone := State.selfAlone_of_cleared (own := s.own) rfl rfl
      exact State.hostTakes_selfAlone h reset e
    | coldReset straps held => exact absurd rfl (cold straps held)
    | frameSentInFull => exact execFrameSentInFull_selfAlone h own e
    | linkFault =>
      cases e
      exact State.takeDueFault_selfAlone h
    | frameReceived f => exact execFrameReceived_selfAlone h e
    | listenTimerExpiry => exact execListenTimerExpiry_selfAlone h own e
    | beaconPeriodTick => exact execBeaconPeriodTick_selfAlone h own e
    | frameStart | contentionLost | answerTransmissionStart | dominantBitFromAnotherStation =>
      have same : s.takeDue.own = s.own := State.own_eq s.takeDue_keeps
      refine due.congr (own.trans same.symm) ?_
      cases e
      generalize s.takeDue = u
      (repeat' split) <;> rfl
    | push | popCompletion | popNotice | unassignedCommandCode | stagingWrite | peerIndexWrite | registerWrite
    | statusCapture | completionHeadCapture | noticeHeadCapture | peerRecordCapture | join | quiet arg | wake
    | abort | abortAll | clearFlags | configurationWrite =>
      refine h.congr own ?_
      rcases State.hostTakes_cases e with ⟨-, rfl⟩ | ⟨-, rfl⟩
      · (repeat' split) <;> simp [State.quietSlots, State.abortSlot_peers, State.storeConfiguration_peers]
      · rfl
    | _ =>
      refine h.congr own ?_
      cases e
      (repeat' split) <;> simp [State.actOn_peers]
  · push Not at cold
    obtain ⟨straps, held, rfl⟩ := cold
    cases e
    exact State.selfAlone_of_cleared (own := straps.sid) rfl rfl

end Sys2Proof.Machine
end

section
/-! While RESETN is asserted the state is a cold one, which only another cold reset moves (R175, R187). -/

namespace Sys2Proof.Machine

variable {s t : State} {c : Instr}

/-! ### RESETN across a command -/

@[simp] theorem State.storeConfiguration_hostPort (s : State) (r : HostRegister) (v : Word) (l : Lanes) :
    (s.storeConfiguration r v l).hostPort = s.hostPort := by
  rw [State.storeConfiguration_frame]

@[simp] theorem State.abortSlot_resetAsserted (s : State) (i : Tag) :
    (s.abortSlot i).hostPort.resetAsserted = s.hostPort.resetAsserted := by
  unfold State.abortSlot
  (repeat' split) <;> simp [State.withResult]

@[simp] theorem State.withResult_resetAsserted (s : State) (r : CommandResult) :
    (s.withResult r).hostPort.resetAsserted = s.hostPort.resetAsserted := rfl

@[simp] theorem State.actOn_hostPort (s : State) (j : EntryNo) (h : HeldWindow) (y : Cycle) (data : BitVec 32)
    (k : TerminationKind) : (s.actOn j h y data k).hostPort = s.hostPort := by
  cases k <;> simp [State.actOn]

/-- No command but a cold reset asserts or releases RESETN. -/
theorem exec_resetAsserted (cold : ∀ straps held, c ≠ .coldReset straps held) (e : exec c s = .next t) :
    t.hostPort.resetAsserted = s.hostPort.resetAsserted := by
  cases c with
  | push | popCompletion | popNotice | join | leave | quiet | wake | abort | abortAll | clearFlags
  | unassignedCommandCode | configurationWrite | stagingWrite | peerIndexWrite | registerWrite | statusCapture
  | completionHeadCapture | noticeHeadCapture | peerRecordCapture | softReset =>
    rcases State.hostTakes_cases e with ⟨-, rfl⟩ | ⟨-, rfl⟩
    · (repeat' split) <;>
        simp [State.quietSlots, State.softReset, softHost]
    · rfl
  | coldReset straps held => exact absurd rfl (cold straps held)
  | holdPointExpiry =>
    cases e
    dsimp only
    (repeat' split) <;> simp
  | dispatch | slotCompletionWrite | directCompletion | transmitRegisterLoad | answerTimerExpiry | backoffExpiry
  | frameStart | contentionLost | urgencyAgeing | transmissionBegins | frameSentInFull | frameAbandoned | linkFault
  | frameReceived | answerTransmissionStart | reservationTimeout | idleGapElapsed | dominantBitFromAnotherStation
  | contextLifetimeExpiry | listenTimerExpiry | beaconPeriodTick | silenceCountExpiry | targetBusArbiter
  | targetTermination | terminationWithdrawn | targetMonitorExpiry =>
    cases e
    (repeat' split) <;> simp

/-! ### The cold state at rest -/

section
variable (own : StationNo) (rate : RateCode) (pins : BusPins) (held : Bool) (q : List Instr)

/-- Each record is cleared, so that none is due to fall silent. -/
theorem State.cold_silenceDue (d : StationNo) : (State.cold own rate pins held q).silenceDue d = false := by
  have aged : (if d = own then PeerState.self else .absent).aged = false := by
    split <;> rfl
  simp [State.silenceDue, State.peer, State.cold, clearedPeers, PeerRecord.cleared, aged]

theorem State.cold_nothingDue : (State.cold own rate pins held q).nothingDue :=
  ⟨State.cold_silenceDue own rate pins held q, Nat.zero_lt_succ 3, Nat.zero_lt_succ 3, .inl fun i => by
    simp [State.slot, State.cold, Requester.reset, Slot.freed, SlotState.isAwaiting]⟩

theorem State.cold_takeDue : (State.cold own rate pins held q).takeDue = State.cold own rate pins held q :=
  State.takeDue_of_nothingDue (State.cold_nothingDue own rate pins held q)

end

/-- While RESETN is asserted the cold state stays as it is: the host is not heard, and off the line with no slot, no context and no
timer no event is in place. -/
theorem exec_cold (own : StationNo) (rate : RateCode) (pins : BusPins) (q : List Instr)
    (cold : ∀ straps held, c ≠ .coldReset straps held) :
    exec c (State.cold own rate pins true q) = .next (State.cold own rate pins true q) := by
  have due := State.cold_takeDue own rate pins true q
  cases c with
  | push | popCompletion | popNotice | join | leave | quiet | wake | abort | abortAll | clearFlags | softReset
  | unassignedCommandCode | configurationWrite | stagingWrite | peerIndexWrite | registerWrite | statusCapture
  | completionHeadCapture | noticeHeadCapture | peerRecordCapture => exact State.hostTakes_of_asserted rfl _
  | coldReset straps held => exact absurd rfl (cold straps held)
  | dispatch | slotCompletionWrite | directCompletion | transmitRegisterLoad | answerTimerExpiry | urgencyAgeing
  | transmissionBegins | frameSentInFull | frameAbandoned | linkFault | reservationTimeout | idleGapElapsed
  | holdPointExpiry | targetBusArbiter | targetTermination | terminationWithdrawn | targetMonitorExpiry => rfl
  | backoffExpiry i =>
    have free : ((State.cold own rate pins true q).slot i).state = .free := by
      simp [State.slot, State.cold, Requester.reset, Slot.freed]
    simp only [exec, execBackoffExpiry, free]
  | contextLifetimeExpiry j =>
    have free : ((State.cold own rate pins true q).context j).state = .free := by
      simp [State.context, State.cold, Responder.reset, Context.empty]
    simp only [exec, execContextLifetimeExpiry, free]
  | silenceCountExpiry =>
    have none : (State.cold own rate pins true q).firstSilent = none := by
      simp [State.firstSilent, State.cold_silenceDue]
    simp only [exec, execSilenceCountExpiry, State.silenceOne, none]
  | frameStart =>
    simp only [exec, execFrameStart, due]
    rfl
  | contentionLost =>
    simp only [exec, execContentionLost, due]
    rfl
  | frameReceived f =>
    simp only [exec, execFrameReceived, due]
    rfl
  | answerTransmissionStart =>
    simp only [exec, execAnswerTransmissionStart, due]
    rfl
  | dominantBitFromAnotherStation =>
    simp only [exec, execDominantBitFromAnotherStation, due]
    rfl
  | listenTimerExpiry =>
    simp only [exec, execListenTimerExpiry, due]
    rfl
  | beaconPeriodTick =>
    simp only [exec, execBeaconPeriodTick, due]
    rfl

/-- A cold reset leaves the pins idle, and another one of them finds nothing more to drive down. -/
theorem State.cold_of_coldReset (straps : Straps) (held : Bool)
    (e : exec (.coldReset straps held) s = .next t) :
    t = State.cold t.own t.link.rate t.target.pins held t.pending := by
  cases e
  rfl

theorem exec_resetKept (h : s.resetKept) (e : exec c s = .next t) : t.resetKept := by
  intro asserted
  by_cases cold : ∀ straps held, c ≠ .coldReset straps held
  · rw [exec_resetAsserted cold e] at asserted
    have same : exec c s = .next s := by
      rw [h asserted]
      exact exec_cold _ _ _ _ cold
    rw [same] at e
    cases e
    exact h asserted
  · push Not at cold
    obtain ⟨straps, held, rfl⟩ := cold
    have built := State.cold_of_coldReset straps held e
    have held : held = true := by
      cases e
      exact asserted
    rwa [held] at built

/-! ### Staging memory -/

theorem State.applyTaken_staging (s : State) (i : Tag) (a : Answer) (h : Memory.wf s.staging = true) :
    Memory.wf (s.applyTaken i a).staging = true := by
  unfold State.applyTaken
  dsimp only
  split
  · simpa using Memory.storeBytes_wf h
  · simpa using h
  · simpa using h

theorem State.applyAnswer_staging (s : State) (i : Tag) (a : Answer) (h : Memory.wf s.staging = true) :
    Memory.wf (s.applyAnswer i a).staging = true := by
  unfold State.applyAnswer
  split
  · exact s.applyTaken_staging i a h
  all_goals simpa [State.applyHeld, State.applyBusy, State.applyRefused] using h

theorem State.deliverFrame_staging (f : Frame) (replySlot : Bool) (h : Memory.wf s.staging = true) :
    Memory.wf (s.deliverFrame f replySlot).staging = true := by
  unfold State.deliverFrame State.deliverAnswer
  dsimp only
  (repeat' split)
  case _ => simpa using h
  case _ => simpa using h
  case _ => exact State.applyAnswer_staging _ _ _ (by simpa using h)
  all_goals simpa using h

theorem State.receive_staging (f : Heard) (h : Memory.wf s.staging = true) : Memory.wf (s.receive f).staging = true := by
  unfold State.receive
  split
  · simpa using h
  · split <;> simpa using h
  · split
    · simpa using h
    · exact State.deliverFrame_staging _ _ (by simpa using h)

/-- Every command keeps staging memory canonical: only a staging write, a READ's data and a cold reset store in it. -/
theorem exec_stagingCanonical (h : s.stagingCanonical) (e : exec c s = .next t) : t.stagingCanonical := by
  have settled (cold : ∀ straps held, c ≠ .coldReset straps held) (write : ∀ a d l, c ≠ .stagingWrite a d l)
      (received : ∀ f, c ≠ .frameReceived f) : t.stagingCanonical := by
    rwa [State.stagingCanonical, (exec_changesOnlyItsOwn cold e).staging write received]
  cases c with
  | coldReset straps held =>
    cases e
    rfl
  | stagingWrite a v l =>
    rcases State.hostTakes_cases e with ⟨-, rfl⟩ | ⟨-, rfl⟩
    · dsimp only
      (repeat' split) <;> simp [State.stagingCanonical, Memory.store_wf, h]
    · exact h
  | frameReceived f =>
    cases e
    have due : Memory.wf s.takeDue.staging = true := by simpa using h
    split
    · split
      · simpa [State.stagingCanonical] using due
      · simpa [State.stagingCanonical] using State.receive_staging f due
    · exact due
  | _ => exact settled (by simp) (by simp) (by simp)

/-- Settles O58: each of the six parts is kept by every command. -/
theorem everyStepKeepsTheStationOrdered : Obligations.EveryStepKeepsTheStationOrdered := by
  intro s t h e
  refine step_keeps (P := fun s => s.stagingCanonical ∧ s.linkCountsKept ∧ s.lockKept ∧ s.ownRecordKept ∧
    s.silentWhenOff ∧ s.resetKept) (fun s q h => ?_) (fun c s t h e => ?_) h e
  · obtain ⟨staging, counts, lock, own, silent, reset⟩ := h
    exact ⟨staging, counts, lock, own, silent, fun asserted => congrArg (State.setPending q) (reset asserted)⟩
  · obtain ⟨staging, counts, lock, own, silent, reset⟩ := h
    obtain ⟨counts, lock⟩ := State.ordered_iff.2 (exec_ordered (State.ordered_iff.1 ⟨counts, lock⟩) e)
    exact ⟨exec_stagingCanonical staging e, counts, lock,
      State.ownRecordKept_iff.2 (exec_selfAlone (State.ownRecordKept_iff.1 own) e),
      State.silentWhenOff_iff.2 (exec_silent (State.silentWhenOff_iff.1 silent) e), exec_resetKept reset e⟩

end Sys2Proof.Machine
end

end

section

/-! SUPPORT. Host accesses, requester and target bus: the command map, the staging window, the completion queue's slot write, the load of the
transmit register, the close of an exchange and the size of a cycle, with the proofs of their statements. -/

set_option Elab.async false

section
/-! Staging writes, the completion queue's slot write, the load of the transmit register, the close of an exchange, the size of a
cycle. -/

namespace Sys2Proof.Machine

variable {s : State} {i : Tag}

/-! ### The size of a cycle -/

/-- Settles O52: the three cases of the choice, each condition being the divisibility it asks. -/
theorem cycleSizeIsTheLargestThatFits : Obligations.CycleSizeIsTheLargestThatFits := by
  intro cap remaining address hcap hremaining
  have one : 1 ∣ address := one_dvd address
  have two : 2 ∣ address ↔ address % 2 = 0 := Nat.dvd_iff_mod_eq_zero
  have four : 4 ∣ address ↔ address % 4 = 0 := Nat.dvd_iff_mod_eq_zero
  dsimp only
  unfold cycleSize
  refine ⟨⟨hcap, hremaining, one⟩, ?_⟩
  split
  · rename_i h
    refine ⟨.inl rfl, ⟨h.1, h.2.1, four.2 h.2.2⟩, ?_, by omega⟩
    rintro n (rfl | rfl | rfl) - <;> omega
  · split
    · rename_i not4 h
      refine ⟨.inr (.inl rfl), ⟨h.1, h.2.1, two.2 h.2.2⟩, ?_, by omega⟩
      rintro n (rfl | rfl | rfl) ⟨le, fits, dvd⟩
      · exact absurd ⟨le, fits, four.1 dvd⟩ not4
      · omega
      · omega
    · rename_i not4 not2
      refine ⟨.inr (.inr rfl), ⟨hcap, hremaining, one⟩, ?_, by omega⟩
      rintro n (rfl | rfl | rfl) ⟨le, fits, dvd⟩
      · exact absurd ⟨le, fits, four.1 dvd⟩ not4
      · exact absurd ⟨le, fits, two.1 dvd⟩ not2
      · omega

/-! ### Writes to the staging window -/

theorem hostRegister_staging (w : Fin 64) : hostRegister (BitVec.ofNat 8 (0x80 + w.val)) = .staging w := by
  revert w
  decide

/-- Staging memory after a write of the strobed halves at an address and the next one (R191). -/
def Memory.storeWord (m : Memory) (a : Nat) (v : Word) (l : Lanes) : Memory :=
  let m1 := if l.low then Memory.store m a (lowByte v) else m
  if l.high then Memory.store m1 (a + 1) (highByte v) else m1

theorem Memory.storeIf_wf {m : Memory} {a : Nat} {b : Byte} {strobed : Bool} (h : Memory.wf m = true) :
    Memory.wf (if strobed then Memory.store m a b else m) = true := by
  split
  · exact Memory.store_wf h
  · exact h

theorem Memory.storeWord_wf {m : Memory} {a : Nat} {v : Word} {l : Lanes} (h : Memory.wf m = true) :
    Memory.wf (m.storeWord a v l) = true :=
  Memory.storeIf_wf (Memory.storeIf_wf h)

/-- What a word stored within staging memory leaves at each address. -/
theorem Memory.read_storeWord {m : Memory} {a : Nat} {v : Word} {l : Lanes} (h : Memory.wf m = true)
    (inside : a + 1 < Config.stagingSize) (x : Nat) :
    Memory.read (m.storeWord a v l) x =
      if x = a ∧ l.low = true then lowByte v
      else if x = a + 1 ∧ l.high = true then highByte v
      else Memory.read m x := by
  have low : Memory.read (if l.low then Memory.store m a (lowByte v) else m) x =
      if x = a ∧ l.low = true then lowByte v else Memory.read m x := by
    cases l.low with
    | false => simp
    | true => simp [Memory.read_store h, Nat.lt_of_succ_lt inside]
  unfold Memory.storeWord
  cases l.high with
  | false => simpa using low
  | true =>
    simp only [if_true, Memory.read_store (Memory.storeIf_wf h), low, inside, and_true]
    by_cases second : x = a + 1
    · simp [second]
    · simp [second]

/-- Settles O17: the window lies within staging memory, as the page has six bits and the offset seven. -/
theorem stagingWriteStoresTheStrobedBytes : Obligations.StagingWriteStoresTheStrobedBytes := by
  intro s w v l released canonical
  have inside : s.hostPort.page.toNat * 128 + 2 * w.val + 1 < Config.stagingSize := by
    have := s.hostPort.page.isLt
    have := w.isLt
    simp only [Config.stagingSize]
    omega
  refine ⟨s.staging.storeWord (s.windowAddress (2 * w.val)) v l, ?_, Memory.storeWord_wf canonical, fun x => ?_⟩
  · simp only [exec, execStagingWrite, hostRegister_staging]
    exact State.hostTakes_of_released released _
  · exact Memory.read_storeWord canonical inside x

/-! ### The completion queue's slot write -/

theorem SlotState.eq_done_of_isDone {x : SlotState} (h : x.isDone = true) : ∃ st n, x = .done st n := by
  cases x <;> simp_all [SlotState.isDone]

/-- Settles O23: the DONE slot of the oldest order is the one found, and its record and the freed slot are the ones written. -/
theorem completionWriteTakesTheOldestDoneSlot : Obligations.CompletionWriteTakesTheOldestDoneSlot := by
  intro s
  refine ⟨fun i st n room done oldest => ?_, fun waits => ?_⟩
  · have found : s.oldestDone = some i := by
      refine bestOf_eq_some_of_least (key := fun j => (s.slot j).state.order) (by rw [done]; rfl) fun j hj h => ?_
      obtain ⟨st', m, hm⟩ := SlotState.eq_done_of_isDone h
      rw [hm, done]
      exact oldest j st' m hj hm
    refine ⟨s.completeSlot i, ?_, ?_⟩
    · simp only [exec, execSlotCompletionWrite, State.completionRoom_iff.2 room, found, if_true]
    · simp only [State.completeSlot, done]
      refine ⟨rfl, ?_, ?_, fun j hj => ?_, rfl⟩
      · rw [State.slot_setSlot_self]; rfl
      · rw [State.slot_setSlot_self]; rfl
      · rw [State.slot_setSlot, if_neg hj]; rfl
  · have idle : s.completionRoom = false ∨ s.oldestDone = none :=
      waits.imp (fun full => decide_eq_false (Nat.not_lt.2 full))
        State.oldestDone_eq_none_iff.2
    simp only [exec, execSlotCompletionWrite]
    rcases idle with full | none
    · simp [full]
    · simp [none]

/-! ### The load of the transmit register -/

/-- Settles O25: the three branches of the load that the pending beacon, a loaded frame and a transmitter off take. -/
theorem loadTakesThePendingBeacon : Obligations.LoadTakesThePendingBeacon := by
  intro s
  refine ⟨fun p empty on pending => ?_, fun f loaded => ?_, fun off => ?_⟩
  · simp only [exec, execTransmitRegisterLoad, empty, on, pending]
    rfl
  · simp [exec, execTransmitRegisterLoad, loaded]
  · simp [exec, execTransmitRegisterLoad, off]

/-- One comparison among allowed indexes leaves an allowed one. -/
theorem bestStep_allowed {allowed : Fin 8 → Bool} {better : Fin 8 → Fin 8 → Bool} {b : Option (Fin 8)} {k : Fin 8}
    (begun : ∀ c, b = some c → allowed c = true) (c : Fin 8) (h : bestStep allowed better b k = some c) :
    allowed c = true := by
  rcases bestStep_foldl_admitted (l := [k]) h with h | ⟨-, h⟩
  · exact begun c h
  · exact h

/-- A fold that meets the best of the allowed indexes, or begins with it, ends with it. -/
theorem bestStep_foldl_best {allowed : Fin 8 → Bool} {better : Fin 8 → Fin 8 → Bool} {i : Fin 8} (hi : allowed i = true)
    (best : ∀ j, j ≠ i → allowed j = true → better i j = true ∧ better j i = false) {l : List (Fin 8)}
    {b : Option (Fin 8)} (met : i ∈ l ∨ b = some i) (begun : ∀ c, b = some c → allowed c = true) :
    l.foldl (bestStep allowed better) b = some i := by
  induction l generalizing b with
  | nil => simpa using met
  | cons k l ih =>
    refine ih ?_ (bestStep_allowed begun)
    by_cases hk : k = i
    · subst k
      refine .inr ?_
      rcases b with _ | c
      · simp [bestStep, hi]
      · by_cases hc : c = i
        · simp [bestStep, hi, hc]
        · simp [bestStep, hi, (best c hc (begun c rfl)).1]
    · refine met.imp (fun h => (List.mem_cons.1 h).resolve_left (Ne.symm hk)) fun h => ?_
      cases ha : allowed k with
      | false => simp [bestStep, h, ha]
      | true => simp [bestStep, h, ha, (best k hk ha).2]

/-- One that every other allowed index is worse than, and none better, is the one `bestOf` finds. -/
theorem bestOf_eq_some_of_best {allowed : Fin 8 → Bool} {better : Fin 8 → Fin 8 → Bool} {i : Fin 8} (hi : allowed i = true)
    (best : ∀ j, j ≠ i → allowed j = true → better i j = true ∧ better j i = false) :
    bestOf allowed better = some i := by
  rw [bestOf_eq_foldl]
  exact bestStep_foldl_best hi best (.inl (List.mem_finRange i)) (by simp)

theorem SlotState.eq_ready_of_isReady {x : SlotState} (h : x.isReady = true) : x = .ready := by
  cases x <;> simp_all [SlotState.isReady]

theorem State.bestReady_eq_some {i : Tag} (ready : (s.slot i).state = .ready)
    (best : ∀ j, j ≠ i → (s.slot j).state = .ready →
      (s.slot j).descriptor.urgency < (s.slot i).descriptor.urgency ∨
        ((s.slot j).descriptor.urgency = (s.slot i).descriptor.urgency ∧
          (s.slot i).dispatchSeq < (s.slot j).dispatchSeq)) : s.bestReady = some i := by
  refine bestOf_eq_some_of_best (by rw [ready]; rfl) fun j hj h => ?_
  rcases best j hj (SlotState.eq_ready_of_isReady h) with more | ⟨equal, earlier⟩
  · simp [more, not_lt_of_gt more, ne_of_lt more]
  · simp [equal, earlier, not_lt_of_gt earlier]

theorem State.bestReady_eq_none (unready : ∀ j, (s.slot j).state ≠ .ready) : s.bestReady = none :=
  bestOf_eq_none.2 fun j => Bool.eq_false_iff.2 (mt SlotState.eq_ready_of_isReady (unready j))

theorem State.awaitingSlot_eq_none_iff : s.awaitingSlot = none ↔ ∀ j, (s.slot j).state.isAwaiting = false :=
  lowestOf_eq_none

/-- The bytes read from an address on (R24). -/
theorem Memory.getD_readBytes {m : Memory} {a n k : Nat} (h : k < n) :
    (Memory.readBytes m a n).getD k 0 = Memory.read m (a + k) := by
  simp [Memory.readBytes, h]

theorem DescriptorKind.op_eq (k : DescriptorKind) : k.op = if k = .write then .write else .read := by
  cases k <;> rfl

/-- A segment carries data when it is a WRITE's (R24). -/
theorem State.buildSegment_data (s : State) (i : Tag) :
    (s.buildSegment i).data =
      if (s.slot i).descriptor.kind = .write then
        Memory.readBytes s.staging ((s.slot i).descriptor.stagingOffset + (s.slot i).bytesDone) (s.slot i).offer
      else [] := by
  simp only [State.buildSegment]
  split <;> simp [*]

/-- Settles O26: the slot is the one `bestReady` finds, and its segment is `buildSegment`'s. -/
theorem loadBuildsTheMostUrgentSegment : Obligations.LoadBuildsTheMostUrgentSegment := by
  refine ⟨fun s i empty active unpending unawaited ready best => ?_, fun s empty unpending idle => ?_⟩
  · have on : s.transmitterOn = true := by simp [State.transmitterOn, active]
    refine ⟨s.buildSegment i, ?_, DescriptorKind.op_eq _, rfl, rfl, rfl, rfl, rfl, rfl, rfl, rfl, rfl, fun other => ?_,
      fun write => ?_⟩
    · simp only [exec, execTransmitRegisterLoad, empty, on, unpending, active, State.awaitingSlot_eq_none_iff.2 unawaited,
        State.bestReady_eq_some ready best]
      rfl
    · rw [State.buildSegment_data, if_neg other]
    · rw [State.buildSegment_data, if_pos write]
      exact ⟨Memory.length_readBytes .., fun k hk => Memory.getD_readBytes hk⟩
  · have unloaded : s.controller.station = .active ∧ s.awaitingSlot = none → s.bestReady = none := by
      rintro ⟨active, unawaited⟩
      rcases idle with inactive | ⟨j, awaiting⟩ | unready
      · exact absurd active inactive
      · simp [State.awaitingSlot_eq_none_iff.1 unawaited j] at awaiting
      · exact State.bestReady_eq_none unready
    simp only [exec, execTransmitRegisterLoad, empty, unpending]
    congr 1
    split
    · rfl
    · split
      · rename_i may
        rw [unloaded may]
      · rfl

/-! ### The close of an exchange -/

theorem State.setSlot_slot (s : State) (i : Tag) : s.setSlot i (s.slot i) = s := by
  simp [State.setSlot, State.onRequester, State.slot]

/-- After an abandonment, or a TAKEN answer, the slot is placed with the flag it has, or with it set (R31, R39). -/
theorem State.takeCourse_eq_placeSlot {c : Course} {flag : Bool}
    (h : c = .place ∧ flag = (s.slot i).firstFlag ∨ c = .advance ∧ flag = true) :
    s.takeCourse i c = (s.setSlot i { s.slot i with firstFlag := flag }).placeSlot i := by
  rcases h with ⟨rfl, rfl⟩ | ⟨rfl, rfl⟩
  · rw [State.setSlot_slot]
    rfl
  · rfl

@[simp] theorem State.peer_setSlot (x : Slot) (d : StationNo) : (s.setSlot i x).peer d = s.peer d := rfl

/-- Settles O29: the close weighs its endings in the order of its branches, and each course is `placeSlot`, `setSlotState` or
`endSlot`. -/
theorem exchangeCloseWeighsInOrder : Obligations.ExchangeCloseWeighsInOrder := by
  intro s i
  have ended (st : Status) := s.endSlot_slot_self i st
  refine ⟨fun c => ⟨fun complete => ?_, fun incomplete marked => ?_, fun d incomplete unmarked deferred => ?_,
    State.closeExchange_of_unmarked c⟩, fun c flag course => ?_, fun n => rfl, fun st => ⟨rfl, ended st⟩⟩
  · have close : s.closeExchange i c = s.endSlot i .ok := if_pos complete
    exact ⟨close, close ▸ ended _⟩
  · have close : s.closeExchange i c = s.endSlot i .aborted := by
      rw [State.closeExchange, if_neg incomplete, if_pos marked]
    exact ⟨close, close ▸ ended _⟩
  · have close : s.closeExchange i c = s.endSlot i d.status := by
      rw [State.closeExchange, if_neg incomplete, if_neg (by simp [unmarked]), deferred]
    cases d <;> exact ⟨close, close ▸ ended _⟩
  · rw [State.takeCourse_eq_placeSlot course]
    refine ⟨fun present => ?_, fun l quiet => ?_, fun st gone => ?_⟩
    · rw [State.placeSlot_of_present (by simpa using present), State.setSlot_setSlotState]
      rfl
    · rw [State.placeSlot_of_quiet (l := l) (by simpa using quiet), State.setSlot_setSlotState, State.slot_setSlot_self]
      rfl
    · rw [State.placeSlot_of_gone (st := st) (by simpa using gone), State.endSlot_slot_self, State.slot_setSlot_self]
      exact ⟨rfl, rfl⟩

end Sys2Proof.Machine
end

section
/-! The command map, the views and the other registers' reads. -/

namespace Sys2Proof.Machine

variable {s : State}

/-! ### Commands of the host map -/

theorem commandCode_toNat (w : Word) : (commandCode w).toNat = w.toNat % 256 := by
  simp [commandCode]

theorem commandCode_eq (w : Word) : commandCode w = BitVec.ofNat 8 (w.toNat % 256) := by
  rw [← commandCode_toNat, BitVec.ofNat_toNat, BitVec.setWidth_eq]

theorem commandArgument_eq (w : Word) : commandArgument w = BitVec.ofNat 8 (w.toNat / 256) := by
  refine BitVec.eq_of_toNat_eq ?_
  simp [commandArgument, Nat.shiftRight_eq_div_pow]

/-- The command of a word, by its code as a number (12.3). -/
theorem commandOf_eq (w : Word) :
    commandOf w =
      if w.toNat % 256 = 1 then .push else if w.toNat % 256 = 2 then .popCompletion
      else if w.toNat % 256 = 3 then .popNotice else if w.toNat % 256 = 4 then .join
      else if w.toNat % 256 = 5 then .leave else if w.toNat % 256 = 6 then .quiet (commandArgument w)
      else if w.toNat % 256 = 7 then .wake else if w.toNat % 256 = 8 then .abort (commandArgument w)
      else if w.toNat % 256 = 9 then .abortAll else if w.toNat % 256 = 10 then .clearFlags
      else if w.toNat % 256 = 11 then .softReset else .unassignedCommandCode (commandCode w) := by
  unfold commandOf
  rw [commandCode_toNat]
  split <;> simp_all

theorem hostWrite_of_strobed {a : Byte} {w : Word} {l : Lanes} (strobed : l.low = true ∨ l.high = true) :
    hostWrite a w l = some
      (if a = 0x00 then commandOf w
       else if a = 0x08 then .peerIndexWrite w l
       else if isConfigurationAddress a then .configurationWrite a w l
       else if isStagingAddress a then .stagingWrite a w l
       else .registerWrite a w l) := by
  refine if_pos ?_
  simpa [Lanes.wellFormed] using strobed

theorem commandOf_wellFormed (w : Word) : WellFormed (commandOf w) = true := by
  by_cases assigned : 1 ≤ w.toNat % 256 ∧ w.toNat % 256 ≤ 11
  · obtain ⟨low, high⟩ := assigned
    unfold commandOf
    rw [commandCode_toNat]
    interval_cases w.toNat % 256 <;> rfl
  · have unassigned : isUnassignedCode (commandCode w) = true := by
      simp only [isUnassignedCode, commandCode_toNat, Bool.or_eq_true, beq_iff_eq, decide_eq_true_eq]
      omega
    rw [commandOf_eq]
    repeat' rw [if_neg (by omega)]
    exact unassigned

/-- A write issues a command whose operands its row can carry. -/
theorem hostWrite_wellFormed {a : Byte} {w : Word} {l : Lanes} {c : Instr} (h : hostWrite a w l = some c) :
    WellFormed c = true := by
  unfold hostWrite at h
  split at h
  · rename_i strobed
    obtain rfl := Option.some.inj h
    split
    · exact commandOf_wellFormed w
    · split
      · exact strobed
      · rename_i command index
        split
        · rename_i configuration
          simp [WellFormed, configuration, strobed]
        · split
          · rename_i staging
            simp [WellFormed, staging, strobed]
          · rename_i configuration staging
            have plain : isPlainAddress a = true := by
              have zero : a.toNat ≠ 0x00 := fun e => command (BitVec.eq_of_toNat_eq e)
              have eight : a.toNat ≠ 0x08 := fun e => index (BitVec.eq_of_toNat_eq e)
              simp [isPlainAddress, zero, eight, configuration, staging]
            simp [WellFormed, plain, strobed]
  · cases h

/-- The groups of the host map do not overlap (12.3). -/
theorem hostWrite_groups {a : Byte} {w : Word} {l : Lanes} (strobed : l.low = true ∨ l.high = true) :
    (a.toNat = 0x08 → hostWrite a w l = some (.peerIndexWrite w l)) ∧
      (isConfigurationAddress a = true → hostWrite a w l = some (.configurationWrite a w l)) ∧
      (isStagingAddress a = true → hostWrite a w l = some (.stagingWrite a w l)) ∧
      (isPlainAddress a = true → hostWrite a w l = some (.registerWrite a w l)) := by
  have groups : (a.toNat = 0x08 → a = 0x08) ∧
      (isConfigurationAddress a = true → a ≠ 0x00 ∧ a ≠ 0x08) ∧
      (isStagingAddress a = true → a ≠ 0x00 ∧ a ≠ 0x08 ∧ isConfigurationAddress a = false) ∧
      (isPlainAddress a = true →
        a ≠ 0x00 ∧ a ≠ 0x08 ∧ isConfigurationAddress a = false ∧ isStagingAddress a = false) := by
    revert a
    decide
  obtain ⟨index, configuration, staging, plain⟩ := groups
  rw [hostWrite_of_strobed strobed]
  refine ⟨fun h => by simp [index h], fun h => ?_, fun h => ?_, fun h => ?_⟩
  · obtain ⟨zero, eight⟩ := configuration h
    rw [if_neg zero, if_neg eight, if_pos h]
  · obtain ⟨zero, eight, other⟩ := staging h
    rw [if_neg zero, if_neg eight, if_neg (by simp [other]), if_pos h]
  · obtain ⟨zero, eight, other, outside⟩ := plain h
    rw [if_neg zero, if_neg eight, if_neg (by simp [other]), if_neg (by simp [outside])]

/-- Settles O14: the two commands by their effects, and the map by the groups of its addresses. -/
theorem clearFlagsAndUnassignedCodes : Obligations.ClearFlagsAndUnassignedCodes := by
  refine ⟨fun s released => ⟨State.hostTakes_of_released released _, fun code unassigned => ?_⟩, fun w l strobed => ?_,
    fun a w l => ⟨fun low high => ?_, fun c => hostWrite_wellFormed, hostWrite_groups⟩, fun a => ?_⟩
  · have code : isUnassignedCode code = true := by simpa [isUnassignedCode] using unassigned
    simp only [exec, execUnassignedCommandCode, code, if_true]
    exact State.hostTakes_of_released released _
  · rw [hostWrite_of_strobed strobed, if_pos rfl, commandOf_eq, commandArgument_eq, commandCode_eq]
  · simp [hostWrite, Lanes.wellFormed, low, high]
  · unfold hostReadCapture
    split <;> simp_all

end Sys2Proof.Machine
end

section
/-! The bits of each view (12.3). -/

namespace Sys2Proof.Machine

theorem flagBit_lt (b : Bool) : flagBit b < 2 := by cases b <;> decide

theorem StationState.code_lt (st : StationState) : st.code < 8 := by cases st <;> simp [StationState.code]

theorem StationState.shownLevel_lt (st : StationState) : st.shownLevel < 8 := by
  cases st <;> simp only [StationState.shownLevel] <;> omega

theorem PeerState.code_lt (st : PeerState) : st.code < 8 := by cases st <;> simp [PeerState.code]

theorem PeerState.shownLevel_lt (st : PeerState) : st.shownLevel < 8 := by
  cases st <;> simp only [PeerState.shownLevel] <;> omega

theorem lastCauseCode_lt (c : Option LastCause) : lastCauseCode c < 16 := by
  rcases c with _ | c
  · decide
  · cases c with
    | refusal c => cases c <;> decide
    | _ => decide

theorem statusWord_zero (t : StatusItems) :
    (statusWord t 0).toNat =
      t.station.code + 8 * t.station.shownLevel + 64 * t.ownNumber.val + 2048 * flagBit t.noticesLost +
        4096 * flagBit t.configLocked := by
  have := t.station.code_lt
  have := t.station.shownLevel_lt
  have := flagBit_lt t.noticesLost
  have := flagBit_lt t.configLocked
  simp only [statusWord, BitVec.toNat_ofNat]
  omega

theorem statusWord_one {t : StatusItems} (requests : t.requestCount ≤ 16) (completions : t.completions ≤ 16)
    (notices : t.notices ≤ 8) :
    (statusWord t 1).toNat = t.requestCount + 32 * t.completions + 1024 * t.notices := by
  simp only [statusWord, BitVec.toNat_ofNat]
  omega

theorem ConfigFault.form_lt (d : ConfigFault) : d.form < 4 := by cases d <;> simp [ConfigFault.form]

theorem ConfigFault.index_lt (d : ConfigFault) : d.index < 16 := by
  cases d <;> simp only [ConfigFault.index] <;> omega

theorem statusWord_two {t : StatusItems} (faults : t.transmitFaults ≤ 4) :
    (statusWord t 2).toNat = t.faultDetail.form + 4 * t.faultDetail.index + 64 * t.transmitFaults := by
  have := t.faultDetail.form_lt
  have := t.faultDetail.index_lt
  simp only [statusWord, BitVec.toNat_ofNat]
  omega

/-- The bits of the status register's words, each with its code or count (12.3). -/
theorem statusWord_bits {t : StatusItems} (requests : t.requestCount ≤ 16) (completions : t.completions ≤ 16)
    (notices : t.notices ≤ 8) (faults : t.transmitFaults ≤ 4) :
    (bitField (statusWord t 0).toNat 0 3 = t.station.code ∧ bitField (statusWord t 0).toNat 3 3 = t.station.shownLevel ∧
      bitField (statusWord t 0).toNat 6 5 = t.ownNumber.val ∧
      bitField (statusWord t 0).toNat 11 1 = flagBit t.noticesLost ∧
      bitField (statusWord t 0).toNat 12 1 = flagBit t.configLocked ∧ bitField (statusWord t 0).toNat 13 3 = 0) ∧
    (bitField (statusWord t 1).toNat 0 5 = t.requestCount ∧ bitField (statusWord t 1).toNat 5 5 = t.completions ∧
      bitField (statusWord t 1).toNat 10 4 = t.notices ∧ bitField (statusWord t 1).toNat 14 2 = 0) ∧
    bitField (statusWord t 2).toNat 0 2 = t.faultDetail.form ∧ bitField (statusWord t 2).toNat 2 4 = t.faultDetail.index ∧
      bitField (statusWord t 2).toNat 6 3 = t.transmitFaults ∧ bitField (statusWord t 2).toNat 9 7 = 0 := by
  have code := t.station.code_lt
  have level := t.station.shownLevel_lt
  have lost := flagBit_lt t.noticesLost
  have locked := flagBit_lt t.configLocked
  have form := t.faultDetail.form_lt
  have index := t.faultDetail.index_lt
  rw [statusWord_zero, statusWord_one requests completions notices, statusWord_two faults]
  simp only [bitField]
  omega

theorem shownTag_lt (i : Option Tag) : shownTag i < 16 := by
  cases i <;> simp only [shownTag] <;> omega

theorem DescriptorKind.code_lt (k : DescriptorKind) : k.code < 4 := by cases k <;> decide

/-- The bits of the completion head view's words (12.3). -/
theorem recordWord_bits {r : CompletionRecord} (bytes : r.bytesDone ≤ 256) (segments : r.segmentsSent ≤ 65535)
    (retries : r.retries ≤ 65535) :
    (bitField (recordWord r 1).toNat 0 4 = shownTag r.tag ∧ bitField (recordWord r 1).toNat 4 4 = r.generation.val ∧
      bitField (recordWord r 1).toNat 8 2 = r.kind.code ∧ bitField (recordWord r 1).toNat 10 5 = r.destination.val ∧
      bitField (recordWord r 1).toNat 15 1 = flagBit r.notify) ∧
    (bitField (recordWord r 2).toNat 0 5 = r.status.code ∧
      bitField (recordWord r 2).toNat 5 4 = lastCauseCode r.lastCause ∧ bitField (recordWord r 2).toNat 9 7 = 0) ∧
    (recordWord r 3).toNat = r.bytesDone ∧ (recordWord r 4).toNat = r.segmentsSent ∧
      (recordWord r 5).toNat = r.retries := by
  have tag := shownTag_lt r.tag
  have kind := r.kind.code_lt
  have notify := flagBit_lt r.notify
  have status := r.status.code_lt
  have cause := lastCauseCode_lt r.lastCause
  simp only [recordWord, BitVec.toNat_ofNat, bitField]
  omega

/-- The codes name their statuses (R68). -/
theorem Status.code_names (st : Status) :
    ([.ok, .aborted, .refused .noWindow, .refused .access, .refused .denied, .refused .targetError,
        .refused .targetTimeout, .refused .targetRetry, .refused .replayLost, .refused .malformed, .peerBusy,
        .peerHeldLimit, .peerNoAnswer, .peerAbsent, .peerSilent, .peerLeft, .peerMismatch, .stationIsolated,
        .stationLeaving] : List Status)[st.code]? = some st := by
  cases st with
  | refused c => cases c <;> rfl
  | _ => rfl

/-- The codes name their causes (R49). -/
theorem lastCauseCode_names (c : Option LastCause) :
    ([none, some (.refusal .noWindow), some (.refusal .access), some (.refusal .denied), some (.refusal .targetError),
        some (.refusal .targetTimeout), some (.refusal .targetRetry), some (.refusal .replayLost),
        some (.refusal .malformed), some .busyLimit, some .heldLimit, some .noAnswerLimit] :
        List (Option LastCause))[lastCauseCode c]? = some c := by
  rcases c with _ | c
  · rfl
  · cases c with
    | refusal c => cases c <;> rfl
    | _ => rfl

theorem NoticeKind.code_bounds (k : NoticeKind) : 1 ≤ k.code ∧ k.code < 16 := by cases k <;> decide

/-- The codes name their notice kinds (12.3). -/
theorem NoticeKind.code_names {n : Nat} {k : NoticeKind} (h : n = k.code) :
    ([.joined, .woken, .left, .duplicateStation, .linkFault, .peerUp, .peerQuiet, .peerSilent, .peerLeft,
        .peerMismatch, .contextDropped] : List NoticeKind)[n - 1]? = some k := by
  subst h
  cases k <;> rfl

/-- The bits of the notice head view's first word (12.3). -/
theorem noticeWord_bits (n : Notice) :
    bitField (noticeWord (some n) 0).toNat 0 4 = n.kind.code ∧
      bitField (noticeWord (some n) 0).toNat 4 5 = n.station.val ∧ bitField (noticeWord (some n) 0).toNat 9 7 = 0 := by
  have kind := n.kind.code_bounds
  simp only [noticeWord, BitVec.toNat_ofNat, bitField]
  omega

theorem DropReason.code_eq (why : DropReason) : why.code = if why = .replaced then 1 else 0 := by cases why <;> rfl

/-- The bits of the detail word of a dropped context (12.3). -/
theorem detailWord_dropped_bits (i : Tag) (g : Generation) (why : DropReason) (written : Bool) :
    bitField (detailWord (.dropped i g why written)).toNat 0 3 = i.val ∧
      bitField (detailWord (.dropped i g why written)).toNat 3 4 = g.val ∧
      bitField (detailWord (.dropped i g why written)).toNat 7 1 = why.code ∧
      bitField (detailWord (.dropped i g why written)).toNat 8 1 = flagBit written ∧
      bitField (detailWord (.dropped i g why written)).toNat 9 7 = 0 := by
  have reason : why.code < 2 := by cases why <;> decide
  have written := flagBit_lt written
  simp only [detailWord, BitVec.toNat_ofNat, bitField]
  omega

/-- The bits of the peer record view's first word (12.3). -/
theorem peerWord_bits {p : PeerRecord} (silence : p.silenceCount ≤ 3) :
    bitField (peerWord p 0).toNat 0 3 = p.state.code ∧ bitField (peerWord p 0).toNat 3 3 = p.state.shownLevel ∧
      bitField (peerWord p 0).toNat 6 2 = p.silenceCount ∧ bitField (peerWord p 0).toNat 8 8 = 0 := by
  have code := p.state.code_lt
  have level := p.state.shownLevel_lt
  simp only [peerWord, BitVec.toNat_ofNat, bitField]
  omega

/-- The second word of the peer record view shows the last sequence under its validity bit (12.3). -/
theorem peerWord_sequence (p : PeerRecord) :
    (peerWord p 1).toNat = p.lastSequence.elim 0 fun q => 256 + q.toNat := by
  simp only [peerWord]
  split
  · simp [*]
  · rename_i q last
    have := q.isLt
    rw [last, Option.elim_some, BitVec.toNat_ofNat]
    omega

/-! ### Registers and captures -/

section
variable {s : State}

theorem hostRegister_status (k : Fin 3) : hostRegister (BitVec.ofNat 8 (0x02 + k.val)) = .status k := by
  revert k
  decide

theorem hostRegister_completionView (k : Fin 6) : hostRegister (BitVec.ofNat 8 (0x20 + k.val)) = .completionView k := by
  revert k
  decide

theorem hostRegister_unlisted {a : Byte}
    (h : 0x0B ≤ a.toNat ∧ a.toNat ≤ 0x0F ∨ 0x19 ≤ a.toNat ∧ a.toNat ≤ 0x1F ∨ a.toNat = 0x26 ∨ a.toNat = 0x27 ∨
        0x2A ≤ a.toNat ∧ a.toNat ≤ 0x2F ∨ 0x3A ≤ a.toNat ∧ a.toNat ≤ 0x3F ∨
        0x40 ≤ a.toNat ∧ a.toNat ≤ 0x7F ∧ a.toNat % 8 = 7 ∨ 0xC0 ≤ a.toNat) : hostRegister a = .unlisted := by
  revert a
  decide

/-- A strobed write of the peer index selects a record and captures it (R158). -/
theorem State.execPeerIndexWrite_of_strobed {v : Word} {l : Lanes} (released : s.hostPort.resetAsserted = false)
    (strobed : l.wellFormed = true) :
    execPeerIndexWrite v l s =
      let n : StationNo := if l.low then Fin.ofNat 32 (v.toNat % 32) else s.hostPort.peerIndex
      .next { s with hostPort := { s.hostPort with peerIndex := n, peerCapture := some (s.peer n) } } := by
  have index : Fin.ofNat 32 (v.toNat % 32) = Fin.ofNat 32 v.toNat := by simp [Fin.ofNat]
  simp only [execPeerIndexWrite, strobed, if_true, index]
  exact State.hostTakes_of_released released _

variable (s)

theorem State.readRegister_result : (s.readRegister .result).toNat = s.hostPort.result.code := by
  simp only [State.readRegister, BitVec.toNat_ofNat]
  cases s.hostPort.result <;> rfl

variable {s} in
theorem State.readRegister_crcCount (counted : s.link.crcErrors ≤ 65535) :
    (s.readRegister .crcCount).toNat = s.link.crcErrors := by
  simp only [State.readRegister, BitVec.toNat_ofNat]
  omega

theorem State.readRegister_enables :
    (s.readRegister .enables).toNat =
      flagBit s.hostPort.completionEnable + 2 * flagBit s.hostPort.noticeEnable := by
  have := flagBit_lt s.hostPort.completionEnable
  have := flagBit_lt s.hostPort.noticeEnable
  simp only [State.readRegister, enablesWord, BitVec.toNat_ofNat]
  omega

theorem State.readRegister_page : (s.readRegister .page).toNat = s.hostPort.page.toNat :=
  BitVec.toNat_setWidth_of_le (by decide)

theorem State.readRegister_peerIndex : (s.readRegister .peerIndex).toNat = s.hostPort.peerIndex.val := by
  simp only [State.readRegister, BitVec.toNat_ofNat]
  omega

theorem State.readRegister_parameter (p : Fin 10) :
    (s.readRegister (.parameter p)).toNat = s.controller.parameters[p].toNat :=
  BitVec.toNat_setWidth_of_le (by decide)

theorem hostRegister_buildWord (k : Fin 9) : hostRegister (BitVec.ofNat 8 (0x10 + k.val)) = .build k := by
  revert k
  decide

theorem hostRegister_parameterWord (p : Fin 10) : hostRegister (BitVec.ofNat 8 (0x30 + p.val)) = .parameter p := by
  revert p
  decide

end

/-- Settles O19: each read is that of the register its address names, and each word's bits are those of its fields. -/
theorem viewsAreReadAsSnapshots : Obligations.ViewsAreReadAsSnapshots := by
  refine ⟨fun s released => ?_, fun t requests completions notices faults => ?_, fun r bytes segments retries => ?_,
    fun n => ?_, fun k l => ⟨rfl, rfl⟩, fun p silence => ?_⟩
  · have read := State.hostRead_of_released released
    have notice : s.hostRead 0x29 = noticeWord (s.notices.capture.getD s.notices.records.head?) 1 := read 0x29
    have peer : s.hostRead 0x0A = peerWord (s.hostPort.peerCapture.getD (s.peer s.hostPort.peerIndex)) 1 := read 0x0A
    refine ⟨State.hostTakes_of_released released _, State.hostTakes_of_released released _,
      State.hostTakes_of_released released _, State.hostTakes_of_released released _, fun v l strobed => ?_,
      fun items k view captured => ?_, fun r k view captured => ?_, fun n captured => ?_, fun p captured => ?_,
      fun empty => ?_, fun empty => ?_, fun k view empty => ?_, fun k view empty => ?_, rfl, read _, read _, read _, read _,
      read _, ?_, fun counted => ?_, ?_, ?_, ?_, fun k => ?_, fun p => ?_, fun w => ?_, fun a unlisted => ?_⟩
    · exact State.execPeerIndexWrite_of_strobed released strobed
    · rw [read, hostRegister_status]
      simp [State.readRegister, view, captured]
    · rw [read, hostRegister_completionView]
      simp [State.readRegister, view, captured]
    · rw [notice, captured, Option.getD_some]
    · rw [peer, captured, Option.getD_some]
    · rw [peer, empty, Option.getD_none]
    · rw [notice, empty, Option.getD_none]
    · rw [read, hostRegister_completionView]
      simp [State.readRegister, view, empty]
    · rw [read, hostRegister_status]
      simp [State.readRegister, view, empty]
    · exact (congrArg BitVec.toNat (read 0x01)).trans (State.readRegister_result s)
    · exact (congrArg BitVec.toNat (read 0x05)).trans (State.readRegister_crcCount counted)
    · exact (congrArg BitVec.toNat (read 0x06)).trans (State.readRegister_enables s)
    · exact (congrArg BitVec.toNat (read 0x07)).trans (State.readRegister_page s)
    · exact (congrArg BitVec.toNat (read 0x08)).trans (State.readRegister_peerIndex s)
    · rw [read, hostRegister_buildWord]
      rfl
    · rw [read, hostRegister_parameterWord]
      exact State.readRegister_parameter s p
    · rw [read, hostRegister_staging]
      exact wordOf_toNat _ _
    · rw [read, hostRegister_unlisted unlisted]
      rfl
  · obtain ⟨⟨code, level, own, lost, locked, rest⟩, ⟨requests, completions, notices, rest'⟩, form, index, faults, rest''⟩ :=
      statusWord_bits requests completions notices faults
    refine ⟨code, level, own, lost, locked, rest, requests, completions, notices, rest', ?_, faults, rest''⟩
    revert form index
    cases t.faultDetail <;> exact fun form index => ⟨form, index⟩
  · obtain ⟨⟨tag, generation, kind, destination, notify⟩, ⟨status, cause, rest⟩, bytes, segments, retries⟩ :=
      recordWord_bits bytes segments retries
    refine ⟨rfl, tag, generation, kind, destination, notify, ?_, ?_, rest, bytes, segments, retries⟩
    · exact (congrArg _ status).trans r.status.code_names
    · exact (congrArg _ cause).trans (lastCauseCode_names r.lastCause)
  · obtain ⟨kind, station, rest⟩ := noticeWord_bits n
    refine ⟨n.kind.code_bounds.1.trans_eq kind.symm, ?_, station, rest, ?_⟩
    · exact NoticeKind.code_names kind
    · cases n with
      | mk kind station detail =>
        cases detail with
        | number l =>
          exact (BitVec.toNat_ofNat ..).trans (Nat.mod_eq_of_lt (by omega))
        | dropped i g why written =>
          obtain ⟨tag, generation, reason, performed, rest⟩ := detailWord_dropped_bits i g why written
          exact ⟨tag, generation, reason.trans why.code_eq, performed, rest⟩
  · obtain ⟨code, level, silence, rest⟩ := peerWord_bits silence
    refine ⟨code, level, silence, rest, ?_⟩
    refine (peerWord_sequence p).trans ?_
    cases p.lastSequence <;> rfl

end Sys2Proof.Machine
end

end

section

/-! SUPPORT. The span: contention, the reply slot and the gap, frames sent in full and abandoned, with the proofs of their statements. -/

set_option Elab.async false

section
/-! The link unit: contention, the reply slot and the gap, and what this station drives. -/

namespace Sys2Proof.Machine

variable {s : State}

/-! ### Contention -/

theorem State.ageingDue_iff : s.ageingDue = true ↔ 4 ≤ s.link.lostCount := decide_eq_true_iff

theorem execFrameStart_of_nothingDue (idle : s.nothingDue) :
    execFrameStart s = .next (if s.link.medium = .idle ∧ s.mayContend then s.enterContention true else s) := by
  simp only [execFrameStart, State.takeDue_of_nothingDue idle]

theorem State.mayContend_iff : s.mayContend = true ↔ s.transmitterOn = true ∧ s.link.tx ≠ none := by
  simp [State.mayContend, Option.isSome_iff_ne_none]

theorem execContentionLost_of_driving (idle : s.nothingDue) (medium : s.link.medium = .contention)
    (driving : s.link.contending = true) :
    execContentionLost s =
      .next { s with link := { s.link with contending := false, lostCount := s.link.lostCount + 1 } } := by
  simp only [execContentionLost, State.takeDue_of_nothingDue idle]
  exact congrArg _ (if_pos ⟨medium, driving⟩)

theorem execTransmissionBegins_of_driving (medium : s.link.medium = .contention) (driving : s.link.contending = true) :
    execTransmissionBegins s =
      .next { s with link := { s.link with medium := .transmitting, contending := false, begun := true } } :=
  congrArg _ (if_pos ⟨medium, driving⟩)

/-- A station that contends, or has begun, drives its loaded frame under its contention code (R134, R135). -/
theorem State.drivenFrame_of_loaded (answering : s.link.answerBegun = false)
    (driving : s.link.contending = true ∨ s.link.begun = true) :
    (∀ i g, s.link.tx = some (.segment i g) →
        s.drivenFrame = some (segmentFrame (contentionCode s.link.effectiveUrgency s.own) g)) ∧
      ∀ b, s.link.tx = some (.beacon b) →
        s.drivenFrame = some (beaconFrame (contentionCode s.link.effectiveUrgency s.own) s.own b) := by
  have drives : (s.link.contending || s.link.begun) = true := by simpa using driving
  refine ⟨fun i g loaded => ?_, fun b loaded => ?_⟩ <;>
    simp [State.drivenFrame, answering, drives, loaded]

/-- The station neither answers, contends nor transmits a frame of its own. -/
structure State.Undriven (s : State) : Prop where
  answering  : s.link.answerBegun = false
  contending : s.link.contending = false
  begun      : s.link.begun = false

theorem State.Undriven.drivenFrame (h : s.Undriven) : s.drivenFrame = none := by
  simp [State.drivenFrame, h.answering, h.contending, h.begun]

/-- Settles O33: each event of the contention course by its branch, and what is driven by the flags it leaves. -/
theorem contentionCourse : Obligations.ContentionCourse := by
  intro s
  have begins (medium : s.link.medium = .contention) (driving : s.link.contending = true) :=
    execTransmissionBegins_of_driving medium driving
  refine ⟨fun idle medium on loaded => ?_, fun idle out => ?_, execContentionLost_of_driving, fun many => ?_, fun few => ?_,
    begins, fun out => ?_, fun c t started answering e => ?_, fun t idle medium driving begun answering e => ?_⟩
  · exact (execFrameStart_of_nothingDue idle).trans
      (congrArg _ (if_pos ⟨medium, State.mayContend_iff.2 ⟨on, loaded⟩⟩))
  · refine (execFrameStart_of_nothingDue idle).trans (congrArg _ (if_neg ?_))
    rintro ⟨medium, may⟩
    exact out.elim (fun other => other medium) (State.mayContend_iff.1 may).2
  · exact congrArg _ (if_pos (State.ageingDue_iff.2 many))
  · exact congrArg _ (if_neg (mt State.ageingDue_iff.1 (Nat.not_le.2 few)))
  · refine congrArg _ (if_neg ?_)
    rintro ⟨medium, driving⟩
    exact out.elim (fun other => other medium) fun still => by simp [still] at driving
  · rcases started with ⟨rfl, idle, medium, on⟩ | ⟨rfl, medium, driving⟩
    · have start := execFrameStart_of_nothingDue idle
      by_cases loaded : s.link.tx = none
      · simp [loaded]
      · rw [if_pos ⟨medium, State.mayContend_iff.2 ⟨on, loaded⟩⟩] at start
        cases start.symm.trans e
        exact State.drivenFrame_of_loaded (s := s.enterContention true) answering (.inl rfl)
    · cases (begins medium driving).symm.trans e
      exact State.drivenFrame_of_loaded
        (s := { s with link := { s.link with medium := .transmitting, contending := false, begun := true } })
        answering (.inr rfl)
  · cases (execContentionLost_of_driving idle medium driving).symm.trans e
    exact State.Undriven.drivenFrame ⟨answering, rfl, begun⟩

/-! ### The reply slot and the gap -/

theorem execAnswerTransmissionStart_of_nothingDue (idle : s.nothingDue) :
    execAnswerTransmissionStart s =
      .next (if s.link.medium = .reserved ∧ s.link.answer.isSome ∧ s.transmitterOn then
        { s with link := { s.link with medium := .transmitting, answerBegun := true } }
      else s) := by
  simp only [execAnswerTransmissionStart, State.takeDue_of_nothingDue idle]
  rfl

/-- Settles O39: each of the three events by its branch. -/
theorem replySlotAndGap : Obligations.ReplySlotAndGap := by
  intro s
  refine ⟨fun a idle medium placed on => ⟨?_, ?_⟩, fun idle out => ?_, fun medium => ?_, fun medium => ?_,
    fun on gap => ?_, fun out => ?_⟩
  · refine (execAnswerTransmissionStart_of_nothingDue idle).trans (congrArg _ (if_pos ⟨medium, ?_, on⟩))
    simp [placed]
  · simp [State.drivenFrame, placed]
  · refine (execAnswerTransmissionStart_of_nothingDue idle).trans (congrArg _ (if_neg ?_))
    rintro ⟨medium, placed, -⟩
    exact out.elim (fun other => other medium) fun empty => by simp [empty] at placed
  · exact congrArg _ (if_pos medium)
  · exact congrArg _ (if_neg medium)
  · exact congrArg _ (if_pos ⟨on, gap⟩)
  · refine congrArg _ (if_neg ?_)
    rintro ⟨on, gap⟩
    exact out.elim (fun off => by simp [off] at on) fun other => other gap

/-! ### Frames sent in full -/

/-- While a slot is AWAITING the end condition of LEAVING does not hold. -/
theorem State.checkLeaving_of_awaiting {i : Tag} (awaiting : (s.slot i).state.isAwaiting = true) : s.checkLeaving = s := by
  refine State.checkLeaving_of_not_due fun ⟨ends, _⟩ => ?_
  obtain ⟨-, slots, -⟩ := State.leavingEnds_iff.1 ends
  simp [(slots i).1] at awaiting

theorem State.Undriven.queueBeacon (h : s.Undriven) (p : PendingBeacon) : (s.queueBeacon p).Undriven := by
  unfold State.queueBeacon
  split
  · exact ⟨h.answering, h.contending, h.begun⟩
  · exact ⟨h.answering, h.contending, h.begun⟩

theorem State.Undriven.checkLeaving (h : s.Undriven) : s.checkLeaving.Undriven := by
  unfold State.checkLeaving
  split
  · exact h.queueBeacon _
  · exact h

theorem State.Undriven.beaconSent (h : s.Undriven) (b : OwnBeacon) : (s.beaconSent b).Undriven := by
  unfold State.beaconSent
  split
  · exact ⟨rfl, rfl, rfl⟩
  · exact State.Undriven.checkLeaving ⟨h.answering, h.contending, h.begun⟩

theorem execFrameSentInFull_of_answer (medium : s.link.medium = .transmitting) (answering : s.link.answerBegun = true) :
    execFrameSentInFull s = .next (s.clearFaults.emptyAnswer.enterGap .ordinary).checkLeaving := by
  simp only [execFrameSentInFull, medium, answering, if_true]

theorem execFrameSentInFull_of_segment {i : Tag} {g : Segment} (medium : s.link.medium = .transmitting)
    (answering : s.link.answerBegun = false) (loaded : s.link.tx = some (.segment i g)) :
    execFrameSentInFull s =
      .next ((s.clearFaults.emptyTransmit.enterReserved).setSlot i ((s.slot i).sent s.aw)) := by
  have awaiting : (((s.clearFaults.emptyTransmit.enterReserved).setSlot i ((s.slot i).sent s.aw)).slot i).state.isAwaiting =
      true := by
    rw [State.slot_setSlot_self]
    rfl
  simp only [execFrameSentInFull, medium, answering, loaded, if_true, Bool.false_eq_true, if_false]
  rw [State.checkLeaving_of_awaiting awaiting]

theorem execFrameSentInFull_of_beacon {b : OwnBeacon} (medium : s.link.medium = .transmitting)
    (answering : s.link.answerBegun = false) (loaded : s.link.tx = some (.beacon b)) :
    execFrameSentInFull s = .next ((s.clearFaults.emptyTransmit.enterGap .ordinary).beaconSent b) := by
  simp only [execFrameSentInFull, medium, answering, loaded, if_true, Bool.false_eq_true, if_false]

/-- Settles O35: by the kind of the frame, the SEGMENT's slot being AWAITING so that the end condition does not hold. -/
theorem frameSentInFullByItsKind : Obligations.FrameSentInFullByItsKind := by
  intro s medium
  refine ⟨fun i g answering loaded => execFrameSentInFull_of_segment medium answering loaded,
    fun b answering loaded goes => ?_, fun answering => execFrameSentInFull_of_answer medium answering, fun t driven e => ?_⟩
  · refine (execFrameSentInFull_of_beacon medium answering loaded).trans (congrArg _ (if_neg ?_))
    rintro ⟨leaving, station⟩
    exact goes.elim (fun h => h leaving) fun h => h station
  · refine State.Undriven.drivenFrame ?_
    rcases driven with ⟨loaded, answering⟩ | ⟨answering, begun, contending⟩
    · rcases hx : s.link.tx with _ | ⟨i, g⟩ | b
      · exact absurd hx loaded
      · cases (execFrameSentInFull_of_segment medium answering hx).symm.trans e
        exact ⟨answering, rfl, rfl⟩
      · cases (execFrameSentInFull_of_beacon medium answering hx).symm.trans e
        have gone : (s.clearFaults.emptyTransmit.enterGap .ordinary).Undriven := ⟨answering, rfl, rfl⟩
        exact gone.beaconSent b
    · cases (execFrameSentInFull_of_answer medium answering).symm.trans e
      have gone : (s.clearFaults.emptyAnswer.enterGap .ordinary).Undriven := ⟨rfl, contending, begun⟩
      exact gone.checkLeaving

/-- The end of the leaving sequence as one update of the state (R94, R144, R157, R164, R172). -/
theorem State.endLeaving_eq (s : State) :
    s.endLeaving =
      { s with
        responder := { s.responder with contexts := Vector.ofFn fun j => (s.context j).isolate }
        link := { s.linkOff.link with ownDigest := none }
        peers := clearedPeers s.own
        controller := { s.controller with
          station := .offline, locked := false, listenTimer := none, beaconTimer := none, pendingBeacon := none,
          beaconSequence := s.controller.beaconSequence + 1 }
        notices := (s.post { kind := .left, station := s.own, detail := .number 0 }).notices } := by
  simp only [State.endLeaving, State.post, State.enter, State.unlock, State.clearPeers, State.clearContexts, State.stopTimers,
    State.dropPendingBeacon, State.linkOff, State.onController, State.onLink, State.onResponder, State.onNotices,
    State.setPeers, State.context, State.own]
  rfl

theorem State.context_endLeaving (s : State) (j : EntryNo) : s.endLeaving.context j = (s.context j).isolate := by
  simp [State.endLeaving_eq, State.context]

/-- Settles O36: `endLeaving`, which is one update of the state. -/
theorem leavingBeaconEndsInOffline : Obligations.LeavingBeaconEndsInOffline := by
  intro s b medium answering loaded leaving station
  refine ⟨(s.clearFaults.emptyTransmit.enterGap .ordinary).endLeaving, ?_, fun j idle => ?_, ?_⟩
  · exact (execFrameSentInFull_of_beacon medium answering loaded).trans (congrArg _ (if_pos ⟨leaving, station⟩))
  · have context : (s.clearFaults.emptyTransmit.enterGap .ordinary).endLeaving.context j = (s.context j).isolate :=
      State.context_endLeaving _ j
    rw [context, Context.isolate_eq, if_neg idle]
    exact ⟨rfl, rfl⟩
  · rw [State.endLeaving_eq]
    rfl

end Sys2Proof.Machine
end

section
/-! Frames abandoned on readback, and the tail then heard. -/

namespace Sys2Proof.Machine

variable {s : State}

/-- Placed by a record that takes requests, a slot is READY or PARKED (R10, R31). -/
theorem State.placeSlot_of_record {i : Tag} {st : SlotState}
    (h : match (s.peer (s.slot i).descriptor.destination).state with
      | .present => st = .ready
      | .quiet l => st = if (s.slot i).descriptor.urgency ≤ l then .parked else .ready
      | _ => False) : s.placeSlot i = s.setSlotState i st := by
  split at h
  · rename_i present
    rw [h, State.placeSlot_of_present present]
  · rename_i l quiet
    rw [h, State.placeSlot_of_quiet quiet]
  · exact h.elim

theorem execFrameAbandoned_of_answer (medium : s.link.medium = .transmitting) (answering : s.link.answerBegun = true) :
    execFrameAbandoned s = .next (s.emptyAnswer.countFault .replySlot).checkLeaving := by
  simp only [execFrameAbandoned, medium, answering, if_true]

theorem execFrameAbandoned_of_segment {i : Tag} {g : Segment} (medium : s.link.medium = .transmitting)
    (answering : s.link.answerBegun = false) (loaded : s.link.tx = some (.segment i g)) :
    execFrameAbandoned s =
      .next ((s.emptyTransmit.countFault .contended).closeExchange i .place).checkLeaving := by
  simp only [execFrameAbandoned, medium, answering, loaded, if_true, Bool.false_eq_true, if_false]

theorem execFrameAbandoned_of_beacon {b : OwnBeacon} (medium : s.link.medium = .transmitting)
    (answering : s.link.answerBegun = false) (loaded : s.link.tx = some (.beacon b)) :
    execFrameAbandoned s =
      .next ((s.emptyTransmit.countFault .contended).beaconAbandoned b).checkLeaving := by
  simp only [execFrameAbandoned, medium, answering, loaded, if_true, Bool.false_eq_true, if_false]

/-- An abandoned BEACON is pending again unless one was queued since, or the station has entered LEAVING (R132). -/
theorem State.beaconAbandoned_eq (s : State) (b : OwnBeacon) :
    s.beaconAbandoned b =
      { s with controller := { s.controller with
          pendingBeacon :=
            match s.controller.pendingBeacon with
            | some p => some p
            | none =>
              if s.controller.station = .leaving ∧ b.state ≠ .leaving then none
              else some { state := b.state, wakeLevel := b.wakeLevel } } } := by
  have kept {q : Option PendingBeacon} (h : s.controller.pendingBeacon = q) :
      s = { s with controller := { s.controller with pendingBeacon := q } } := by rw [← h]
  unfold State.beaconAbandoned
  rcases pending : s.controller.pendingBeacon with _ | p
  · by_cases dropped : s.controller.station = .leaving ∧ b.state ≠ .leaving
    · rw [if_neg (by simpa using dropped), if_pos dropped]
      exact kept pending
    · rw [if_pos ⟨rfl, by simpa using dropped⟩, if_neg dropped]
      rfl
  · rw [if_neg (by simp)]
    exact kept pending

theorem State.hearing_of_receiving (medium : s.link.medium = .receiving) : s.hearing = true := by
  simp [State.hearing, medium]

theorem execFrameReceived_of_tail {h : Heard} (idle : s.nothingDue) (medium : s.link.medium = .receiving)
    (tail : s.link.followTail = true) : execFrameReceived h s = .next s.endTail := by
  simp only [execFrameReceived, State.takeDue_of_nothingDue idle, State.hearing_of_receiving medium, tail, if_true]

/-- Settles O37: by the kind of the frame, and the tail by the layout it is read in. -/
theorem frameAbandonedByItsKind : Obligations.FrameAbandonedByItsKind := by
  intro s
  refine ⟨fun i g medium answering loaded => ?_, fun b medium answering loaded => ?_, execFrameAbandoned_of_answer,
    fun h idle medium tail => ?_⟩
  · have abandoned := execFrameAbandoned_of_segment medium answering loaded
    refine ⟨abandoned, fun st incomplete unmarked undeferred record => abandoned.trans ?_⟩
    have placed : (s.emptyTransmit.countFault .contended).closeExchange i .place =
        (s.emptyTransmit.countFault .contended).setSlotState i st := by
      rw [State.closeExchange_of_unmarked (s := s.emptyTransmit.countFault .contended) .place incomplete unmarked undeferred]
      exact State.placeSlot_of_record record
    rw [placed]
    rfl
  · refine (execFrameAbandoned_of_beacon medium answering loaded).trans ?_
    rw [State.beaconAbandoned_eq]
    rfl
  · refine (execFrameReceived_of_tail idle medium tail).trans ?_
    have followed (l : Layout) (layout : s.link.layout = l) :
        (s.onLink fun k => { k with followTail := false }).link.layout = l := layout
    cases layout : s.link.layout with
    | contended => exact congrArg _ (State.endHeard_of_contended (followed _ layout) true)
    | lateReply => exact congrArg _ (State.endHeard_of_lateReply (followed _ layout) true)
    | replySlot => exact congrArg _ (State.endHeard_of_replySlot (followed _ layout) true)

end Sys2Proof.Machine
end

end

section

/-! SUPPORT. Slots that end: the chain of releases an entry to DONE starts, ABORT, and the transitions of a peer record delivered to the slots, with
the proofs of their statements. -/

set_option Elab.async false

section
/-! Entry to DONE and the chain of releases it starts: what becomes of each slot and of the done order. -/

namespace Sys2Proof.Machine

variable {s t : State} {d : StationNo} {i j : Tag}

/-! ### The chain of releases -/

/-- Two tests that differ at one index of a list without repetitions, where the first alone holds. -/
theorem countP_eq_succ_of_differ {α : Type} {p q : α → Bool} {a : α} (hp : p a = true) (hq : q a = false)
    (same : ∀ b, b ≠ a → p b = q b) {l : List α} (nodup : l.Nodup) (mem : a ∈ l) : l.countP p = l.countP q + 1 := by
  induction l with
  | nil => cases mem
  | cons b l ih =>
    obtain ⟨notMem, nodup⟩ := List.nodup_cons.1 nodup
    rcases List.mem_cons.1 mem with rfl | mem
    · have rest : l.countP p = l.countP q := List.countP_congr fun c hc => by
        rw [same c fun e => notMem (e ▸ hc)]
      simp [hp, hq, rest]
    · have apart : b ≠ a := fun e => notMem (e ▸ mem)
      simp only [List.countP_cons, same b apart, ih nodup mem]
      omega

/-- What the release of a destination's BEHIND slots leaves: only those slots change, and the ones that become DONE take the places
of the done order from the next one on, each its own (R41, R42). -/
structure Released (d : StationNo) (s t : State) : Prop where
  frame   : t = { s with requester := { s.requester with slots := t.requester.slots, doneNext := t.requester.doneNext } }
  others  : ∀ j, (s.slot j).state ≠ .behind ∨ (s.slot j).descriptor.destination ≠ d → t.slot j = s.slot j
  places  : ∀ j, (s.slot j).state = .behind → (t.slot j).state.isDone = true →
    s.requester.doneNext ≤ (t.slot j).state.order ∧ (t.slot j).state.order < t.requester.doneNext ∧
      ∀ k, k ≠ j → (s.slot k).state = .behind → (t.slot k).state.isDone = true →
        (t.slot k).state.order ≠ (t.slot j).state.order
  counted : t.requester.doneNext =
    s.requester.doneNext + (List.finRange 8).countP fun j => (t.slot j).state.isDone && !(s.slot j).state.isDone

/-- With no slot newly DONE, the done order stays where it is. -/
theorem countP_done_of_none (h : ∀ j, (t.slot j).state.isDone = true → (s.slot j).state.isDone = true) :
    ((List.finRange 8).countP fun j => (t.slot j).state.isDone && !(s.slot j).state.isDone) = 0 := by
  refine List.countP_eq_zero.2 fun j _ => ?_
  simpa using h j

theorem Released.refl (d : StationNo) (s : State) : Released d s s where
  frame := rfl
  others _ _ := rfl
  places j behind done := by simp [behind, SlotState.isDone] at done
  counted := by rw [countP_done_of_none fun _ => id, Nat.add_zero]

/-- A BEHIND slot that the peer-state test makes READY or PARKED ends the chain. -/
theorem Released.place {st : SlotState} (behind : (s.slot j).state = .behind)
    (destination : (s.slot j).descriptor.destination = d) (undone : st.isDone = false) :
    Released d s (s.setSlotState j st) where
  frame := rfl
  others k h := by
    rw [State.slot_setSlotState, if_neg]
    rintro rfl
    exact h.elim (absurd behind) (absurd destination)
  places k hb done := by
    rw [State.slot_setSlotState] at done
    split at done
    · simp [undone] at done
    · simp [hb, SlotState.isDone] at done
  counted := by
    rw [countP_done_of_none]
    · rfl
    · intro k done
      rw [State.slot_setSlotState] at done
      split at done
      · simp [undone] at done
      · exact done

/-- The slot that is made DONE is one more newly DONE. -/
theorem countP_done_finishSlot {st : Status} (undone : (s.slot j).state.isDone = false)
    (done : (t.slot j).state.isDone = true) :
    ((List.finRange 8).countP fun k => (t.slot k).state.isDone && !(s.slot k).state.isDone) =
      ((List.finRange 8).countP fun k => (t.slot k).state.isDone && !((s.finishSlot j st).slot k).state.isDone) + 1 := by
  refine countP_eq_succ_of_differ (a := j) ?_ ?_ (fun k hk => ?_) (List.nodup_finRange 8) (List.mem_finRange j)
  · rw [done, undone]
    rfl
  · rw [State.slot_finishSlot, if_pos rfl]
    simp [SlotState.isDone]
  · rw [State.slot_finishSlot, if_neg hk]

/-- A BEHIND slot made DONE takes the next place, and the chain goes on after it. -/
theorem Released.finish {st : Status} (behind : (s.slot j).state = .behind)
    (destination : (s.slot j).descriptor.destination = d) (h : Released d (s.finishSlot j st) t) : Released d s t := by
  have self : (s.finishSlot j st).slot j = { s.slot j with state := .done st s.requester.doneNext } := by
    rw [State.slot_finishSlot, if_pos rfl]
  have ne {k : Tag} (hk : k ≠ j) : (s.finishSlot j st).slot k = s.slot k := by rw [State.slot_finishSlot, if_neg hk]
  have next : (s.finishSlot j st).requester.doneNext = s.requester.doneNext + 1 := rfl
  have kept : t.slot j = { s.slot j with state := .done st s.requester.doneNext } := by
    rw [h.others j (.inl (by rw [self]; simp)), self]
  have grows : s.requester.doneNext + 1 ≤ t.requester.doneNext := by
    rw [h.counted, next]
    exact Nat.le_add_right _ _
  have later {k : Tag} (hk : k ≠ j) (hb : (s.slot k).state = .behind) (done : (t.slot k).state.isDone = true) :=
    h.places k (by rwa [ne hk]) done
  refine ⟨h.frame.trans rfl, fun k hk => ?_, fun k hb done => ?_, ?_⟩
  · have apart : k ≠ j := by
      rintro rfl
      exact hk.elim (absurd behind) (absurd destination)
    rw [h.others k (by rwa [ne apart]), ne apart]
  · by_cases hk : k = j
    · subst k
      rw [kept]
      refine ⟨le_refl _, grows, fun m hm hb done => ?_⟩
      have after := (later hm hb done).1
      rw [next] at after
      exact Nat.ne_of_gt after
    · obtain ⟨start, limit, alone⟩ := later hk hb done
      refine ⟨Nat.le_of_succ_le start, limit, fun m hm hb' done' => ?_⟩
      by_cases hmj : m = j
      · subst m
        rw [kept]
        exact Nat.ne_of_lt start
      · exact alone m hm (by rwa [ne hmj]) done'
  · rw [h.counted, next, countP_done_finishSlot (s := s) (j := j) (st := st) (by rw [behind]; rfl) (by rw [kept]; rfl)]
    omega

theorem State.releaseBehind_released (n : Nat) (d : StationNo) (s : State) :
    Released d s (State.releaseBehind n d s) := by
  induction n generalizing s with
  | zero => exact Released.refl d s
  | succ n ih =>
    unfold State.releaseBehind
    split
    · exact Released.refl d s
    · split
      · exact Released.refl d s
      · rename_i j first
        obtain ⟨behind, destination⟩ := State.firstBehind_eq_some first
        split
        · exact Released.place behind destination rfl
        · exact Released.place behind destination rfl
        · exact Released.finish behind destination (ih _)

/-- What the end of a slot leaves besides it: the chain of releases that starts once it is DONE (R41, R42). -/
theorem State.endSlot_released (s : State) (i : Tag) (st : Status) :
    Released (s.slot i).descriptor.destination (s.finishSlot i st) (s.endSlot i st) :=
  State.releaseBehind_released _ _ _

/-- The end of a slot changes, besides it, only BEHIND slots of its destination. -/
theorem State.endSlot_slot_other {st : Status} (hj : j ≠ i)
    (h : (s.slot j).state ≠ .behind ∨ (s.slot j).descriptor.destination ≠ (s.slot i).descriptor.destination) :
    (s.endSlot i st).slot j = s.slot j := by
  have same : (s.finishSlot i st).slot j = s.slot j := by rw [State.slot_finishSlot, if_neg hj]
  rw [(s.endSlot_released i st).others j (by rwa [same]), same]

/-- The slots that become DONE with the one that ends take the places after its own, each its own one. -/
theorem State.endSlot_places {st : Status} (hj : j ≠ i) (behind : (s.slot j).state = .behind)
    (done : ((s.endSlot i st).slot j).state.isDone = true) :
    s.requester.doneNext < ((s.endSlot i st).slot j).state.order ∧
      ((s.endSlot i st).slot j).state.order < (s.endSlot i st).requester.doneNext ∧
      ∀ k, k ≠ j → (s.slot k).state = .behind → ((s.endSlot i st).slot k).state.isDone = true →
        ((s.endSlot i st).slot k).state.order ≠ ((s.endSlot i st).slot j).state.order := by
  have same {k : Tag} (hk : k ≠ i) : (s.finishSlot i st).slot k = s.slot k := by rw [State.slot_finishSlot, if_neg hk]
  obtain ⟨start, limit, alone⟩ := (s.endSlot_released i st).places j (by rwa [same hj]) done
  refine ⟨start, limit, fun k hk hb => ?_⟩
  by_cases hki : k = i
  · subst k
    rw [State.endSlot_slot_self]
    exact fun _ => Nat.ne_of_lt start
  · exact alone k hk (by rwa [same hki])

theorem State.endSlot_doneNext {st : Status} (undone : (s.slot i).state.isDone = false) :
    (s.endSlot i st).requester.doneNext =
      s.requester.doneNext +
        (List.finRange 8).countP fun j => ((s.endSlot i st).slot j).state.isDone && !(s.slot j).state.isDone := by
  have next : (s.finishSlot i st).requester.doneNext = s.requester.doneNext + 1 := rfl
  rw [(s.endSlot_released i st).counted, next,
    countP_done_finishSlot (st := st) undone (by rw [State.endSlot_slot_self]; rfl)]
  omega

theorem State.endSlot_eq_requester (s : State) (i : Tag) (st : Status) :
    s.endSlot i st =
      { s with requester := { s.requester with
          slots := (s.endSlot i st).requester.slots, doneNext := (s.endSlot i st).requester.doneNext } } :=
  (s.endSlot_released i st).frame.trans rfl

/-! ### ABORT -/

theorem State.inFlight_eq (s : State) (i : Tag) :
    s.inFlight i = ((s.slot i).state.isAwaiting || ((s.slot i).state.isContending && s.link.begun)) := rfl

theorem execAbort_of_tag (released : s.hostPort.resetAsserted = false) (i : Tag) :
    execAbort (BitVec.ofNat 8 i.val) s = .next (s.abortSlot i) := by
  have tag : (BitVec.ofNat 8 i.val).toNat = i.val := by
    rw [BitVec.toNat_ofNat]
    omega
  have named : Fin.ofNat 8 i.val = i := Fin.ext (Nat.mod_eq_of_lt i.isLt)
  rw [execAbort, State.hostTakes_of_released released, tag, named, if_pos (by omega)]

/-- The link unit once the frame of a slot out of flight is withdrawn: a CONTENDING slot's (R29). -/
def State.linkWithout (s : State) (i : Tag) : Link :=
  if (s.slot i).state.isContending then { s.link with tx := none, begun := false, contending := false } else s.link

theorem State.withdraw_eq (unbegun : (s.slot i).state.isContending = true → s.link.begun = false) :
    s.withdraw i = { s with link := s.linkWithout i } := by
  unfold State.withdraw State.linkWithout
  cases contending : (s.slot i).state.isContending with
  | false => rfl
  | true => simp [unbegun contending, State.emptyTransmit, State.onLink]

/-- Out of flight, a CONTENDING slot's frame has not begun. -/
theorem State.unbegun_of_not_flying
    (h : ((s.slot i).state.isAwaiting || ((s.slot i).state.isContending && s.link.begun)) = false)
    (contending : (s.slot i).state.isContending = true) : s.link.begun = false := by
  simpa [contending] using (Bool.or_eq_false_iff.1 h).2

/-- The release looks at the slots and the peers alone. -/
theorem State.releaseBehind_congr (n : Nat) (d : StationNo) (requester : t.requester = s.requester)
    (peers : t.peers = s.peers) : (State.releaseBehind n d t).requester = (State.releaseBehind n d s).requester := by
  have slots (k : Tag) : t.slot k = s.slot k := State.slot_congr requester k
  induction n generalizing s t with
  | zero => exact requester
  | succ n ih =>
    have active : t.destinationActive d = s.destinationActive d := by simp only [State.destinationActive, slots]
    have first : t.firstBehind d = s.firstBehind d := by simp only [State.firstBehind, slots]
    have placed (k : Tag) : t.placementOf k = s.placementOf k := by
      simp only [State.placementOf, slots, State.peer, peers]
    have setState (k : Tag) (st : SlotState) : (t.setSlotState k st).requester = (s.setSlotState k st).requester := by
      simp only [State.setSlotState, State.setSlot, State.onRequester, slots, requester]
    unfold State.releaseBehind
    rw [active, first]
    split
    · exact requester
    · split
      · exact requester
      · rename_i j _
        rw [placed]
        split
        · exact setState j .ready
        · exact setState j .parked
        · rename_i st _
          have finished : (t.finishSlot j st).requester = (s.finishSlot j st).requester := by
            simp only [State.finishSlot, State.onRequester, setState, requester]
          exact ih finished peers fun k => State.slot_congr finished k

theorem State.endSlot_congr (i : Tag) (st : Status) (requester : t.requester = s.requester) (peers : t.peers = s.peers) :
    (t.endSlot i st).requester = (s.endSlot i st).requester := by
  have finished : (t.finishSlot i st).requester = (s.finishSlot i st).requester := by
    simp only [State.finishSlot, State.setSlotState, State.setSlot, State.onRequester, State.slot, requester]
  rw [State.endSlot, State.endSlot, State.slot_congr requester]
  exact State.releaseBehind_congr 8 _ finished peers

/-- The host's result has no part in the end of a slot. -/
theorem State.endSlot_withResult (s : State) (i : Tag) (st : Status) (r : CommandResult) :
    (s.endSlot i st).withResult r = (s.withResult r).endSlot i st := by
  have requester : ((s.withResult r).endSlot i st).requester = (s.endSlot i st).requester :=
    State.endSlot_congr (s := s) (t := s.withResult r) i st rfl rfl
  rw [(s.withResult r).endSlot_eq_requester, requester, s.endSlot_eq_requester]
  rfl

/-- The state an ABORT of a slot out of flight ends the slot in: its unbegun frame withdrawn, the host's result left (R29, R63). -/
def State.aborting (s : State) (i : Tag) : State :=
  { s with link := s.linkWithout i, hostPort := { s.hostPort with result := .accepted } }

/-- A slot out of flight is DONE with ABORTED at once, its unbegun frame withdrawn (R63). -/
theorem State.abortSlot_of_waiting (occupied : (s.slot i).state.isFree = false)
    (undone : (s.slot i).state.isDone = false)
    (flying : ((s.slot i).state.isAwaiting || ((s.slot i).state.isContending && s.link.begun)) = false) :
    s.abortSlot i = (s.aborting i).endSlot i .aborted := by
  have waits : s.waiting i = true := by
    rw [State.waiting_eq, occupied, undone, State.inFlight_eq, flying]
    rfl
  rw [State.abortSlot, if_pos waits, State.endSlot_withResult, State.withdraw_eq (State.unbegun_of_not_flying flying)]
  rfl

/-- Settles O12: the three answers of `abortSlot`, and what the end of a slot leaves besides it. -/
theorem abortActsByTheSlotState : Obligations.AbortActsByTheSlotState := by
  intro s released
  refine ⟨fun a large => ?_, fun i => ?_⟩
  · refine (State.hostTakes_of_released released _).trans ?_
    rw [if_neg (Nat.not_le.2 large)]
    rfl
  · have aborts := execAbort_of_tag released i
    refine ⟨fun out => aborts.trans ?_, fun flying => aborts.trans ?_, fun occupied undone flying => ?_⟩
    · have idle : s.inFlight i = false := by
        rw [State.inFlight_eq]
        cases hs : (s.slot i).state <;> simp_all [SlotState.isFree, SlotState.isDone, SlotState.isAwaiting, SlotState.isContending]
      have settled : s.waiting i = false := by
        rw [State.waiting_eq, idle]
        cases hs : (s.slot i).state <;> simp_all [SlotState.isFree, SlotState.isDone]
      rw [State.abortSlot, settled, idle]
      rfl
    · have settled : s.waiting i = false := by
        rw [State.waiting_eq, State.inFlight_eq, flying, Bool.not_true, Bool.and_false]
      rw [State.abortSlot, settled, State.inFlight_eq, flying]
      rfl
    · have ends := State.abortSlot_of_waiting occupied undone flying
      refine ⟨(s.aborting i).endSlot i .aborted, ends ▸ aborts, rfl, (s.aborting i).endSlot_slot_self i .aborted,
        fun j => State.endSlot_slot_other (s := s.aborting i), fun j hj behind =>
          State.endSlot_places (s := s.aborting i) hj behind, State.endSlot_doneNext (s := s.aborting i) undone,
        (s.aborting i).endSlot_eq_requester i .aborted |>.trans ?_⟩
      have link : ((s.aborting i).endSlot i .aborted).link = s.linkWithout i := by simp [State.aborting]
      rw [link]
      rfl

end Sys2Proof.Machine
end

section
/-! Peer transitions delivered to the slot of the destination, and what they release. -/

namespace Sys2Proof.Machine

variable {s t : State} {d : StationNo} {i j : Tag}

/-! ### The slot a transition reaches -/

theorem State.reached_eq_none (inactive : ∀ i, (s.slot i).state.isActive = true → (s.slot i).descriptor.destination ≠ d) :
    s.reached d = none := by
  refine lowestOf_eq_none.2 fun i => ?_
  simpa using inactive i

/-- The one active slot of the destination is the one reached (R55). -/
theorem State.reached_eq_some (active : (s.slot i).state.isActive = true) (destination : (s.slot i).descriptor.destination = d)
    (only : ∀ j, j ≠ i → (s.slot j).state.isActive = true → (s.slot j).descriptor.destination ≠ d) :
    s.reached d = some i := by
  refine lowestOf_eq_some_of_least (by simp [active, destination]) fun j hj => ?_
  simpa using only j (ne_of_lt hj)

theorem State.deliverTransition_of_none (none : s.reached d = none) (before after : PeerState) :
    s.deliverTransition d before after = s := by
  rw [State.deliverTransition, none]

theorem State.deliverTransition_quiet (reached : s.reached d = some i) (before : PeerState) (l : Urgency) :
    s.deliverTransition d before (.quiet l) = s.quietReaches i l := by
  rw [State.deliverTransition, reached]

theorem SlotState.isParked_iff {x : SlotState} : x.isParked = true ↔ x = .parked := by
  cases x <;> simp [SlotState.isParked]

/-- A return to PRESENT un-parks the slot (R57). -/
theorem State.deliverTransition_present (reached : s.reached d = some i) {before : PeerState} :
    ((s.slot i).state = .parked → (∃ k, before = .quiet k) →
      s.deliverTransition d before .present = s.setSlotState i .ready) ∧
    ((s.slot i).state ≠ .parked → s.deliverTransition d before .present = s) := by
  constructor
  · rintro parked ⟨k, rfl⟩
    simp only [State.deliverTransition, reached, parked]
    rfl
  · intro unparked
    have out : (s.slot i).state.isParked = false := Bool.eq_false_iff.2 (mt SlotState.isParked_iff.1 unparked)
    simp only [State.deliverTransition, reached, out]
    split <;> rfl

/-- The deferred ending a transition that ends transactions records (R55). -/
theorem State.deliverTransition_ending (reached : s.reached d = some i) {before after : PeerState} {e : Deferred}
    (ending : after = .silent ∧ e = .peerSilent ∨ after = .absent ∧ e = .peerLeft ∨
      after = .mismatched ∧ e = .peerMismatch) :
    s.deliverTransition d before after = s.endingReaches i e := by
  rcases ending with ⟨rfl, rfl⟩ | ⟨rfl, rfl⟩ | ⟨rfl, rfl⟩ <;> rw [State.deliverTransition, reached]

/-! ### The release at a peer that takes no request -/

/-- With the destination out of reach, every BEHIND slot of it is DONE with the record's status (R10, R42). -/
theorem State.releaseBehind_of_gone {st : Status} (n : Nat) (inactive : s.destinationActive d = false)
    (gone : ∀ u, placement u (s.peer d).state = .ended st) (enough : (s.behindOn d).card ≤ n)
    (hj : j ∈ s.behindOn d) :
    ∃ m, s.requester.doneNext ≤ m ∧
      (State.releaseBehind n d s).slot j = { s.slot j with state := .done st m } := by
  induction n generalizing s with
  | zero => simp [Finset.card_eq_zero.1 (Nat.le_zero.1 enough)] at hj
  | succ n ih =>
    cases first : s.firstBehind d with
    | none => simp [State.firstBehind_eq_none_iff_behindOn.1 first] at hj
    | some k =>
      obtain ⟨behind, destination⟩ := State.firstBehind_eq_some first
      have hk : k ∈ s.behindOn d := State.mem_behindOn.2 ⟨behind, destination⟩
      have placed : s.placementOf k = .ended st := by rw [State.placementOf, destination, gone]
      have step : State.releaseBehind (n + 1) d s = State.releaseBehind n d (s.finishSlot k st) := by
        rw [State.releaseBehind_of_some inactive first, placed]
      have self : (s.finishSlot k st).slot k = { s.slot k with state := .done st s.requester.doneNext } := by
        rw [State.slot_finishSlot, if_pos rfl]
      rw [step]
      by_cases hjk : j = k
      · subst j
        refine ⟨s.requester.doneNext, le_refl _, ?_⟩
        rw [(State.releaseBehind_released n d _).others k (.inl (by rw [self]; simp)), self]
      · have same : (s.finishSlot k st).slot j = s.slot j := by rw [State.slot_finishSlot, if_neg hjk]
        have fewer : ((s.finishSlot k st).behindOn d).card ≤ n := by
          rw [State.behindOn_finishSlot, Finset.card_erase_of_mem hk]
          omega
        have still : (s.finishSlot k st).destinationActive d = false := by
          rw [← Bool.not_eq_true, State.destinationActive_iff] at inactive ⊢
          rintro ⟨m, active, hd⟩
          rw [State.slot_finishSlot] at active hd
          split at active
          · simp [SlotState.isActive] at active
          · rename_i hm
            rw [if_neg hm] at hd
            exact inactive ⟨m, active, hd⟩
        have there : j ∈ (s.finishSlot k st).behindOn d := by
          rw [State.behindOn_finishSlot]
          exact Finset.mem_erase.2 ⟨hjk, hj⟩
        obtain ⟨m, later, done⟩ := ih still (fun u => gone u) fewer there
        exact ⟨m, Nat.le_of_succ_le later, by rw [done, same]⟩

/-- The end of the one active slot of a destination out of reach ends every BEHIND slot of it after it. -/
theorem State.endSlot_of_gone {st st' : Status} (active : (s.slot i).state.isActive = true)
    (destination : (s.slot i).descriptor.destination = d)
    (only : ∀ j, j ≠ i → (s.slot j).state.isActive = true → (s.slot j).descriptor.destination ≠ d)
    (gone : ∀ u, placement u (s.peer d).state = .ended st') (behind : (s.slot j).state = .behind)
    (hd : (s.slot j).descriptor.destination = d) :
    ∃ n, s.requester.doneNext < n ∧ (s.endSlot i st).slot j = { s.slot j with state := .done st' n } := by
  have hj : j ≠ i := by
    rintro rfl
    simp [behind, SlotState.isActive] at active
  have self : (s.finishSlot i st).slot i = { s.slot i with state := .done st s.requester.doneNext } := by
    rw [State.slot_finishSlot, if_pos rfl]
  have same {k : Tag} (hk : k ≠ i) : (s.finishSlot i st).slot k = s.slot k := by rw [State.slot_finishSlot, if_neg hk]
  have inactive : (s.finishSlot i st).destinationActive d = false := by
    rw [← Bool.not_eq_true, State.destinationActive_iff]
    rintro ⟨k, active, hk⟩
    by_cases hki : k = i
    · subst k
      rw [self] at active
      simp [SlotState.isActive] at active
    · rw [same hki] at active hk
      exact only k hki active hk
  have there : j ∈ (s.finishSlot i st).behindOn d := by
    rw [State.mem_behindOn, same hj]
    exact ⟨behind, hd⟩
  obtain ⟨m, later, done⟩ := State.releaseBehind_of_gone 8 inactive (fun u => gone u) (Finset.card_le_univ _) there
  refine ⟨m, later, ?_⟩
  rw [State.endSlot, destination, done, same hj]

/-- The state once the frame of a slot out of flight is withdrawn (R29). -/
def State.withoutFrame (s : State) (i : Tag) : State := { s with link := s.linkWithout i }

/-- Out of flight the slot ends at once, its unbegun frame withdrawn (R29, R58). -/
theorem State.deliverTransition_gone (reached : s.reached d = some i) {before after : PeerState} {st : Status}
    (flying : ((s.slot i).state.isAwaiting || ((s.slot i).state.isContending && s.link.begun)) = false)
    (ending : after = .silent ∧ st = .peerSilent ∨ after = .absent ∧ st = .peerLeft ∨
      after = .mismatched ∧ st = .peerMismatch) :
    s.deliverTransition d before after = (s.withoutFrame i).endSlot i st := by
  have resting : ¬s.inFlight i = true := by simp [State.inFlight_eq, flying]
  have ends (e : Deferred) : s.endingReaches i e = (s.withoutFrame i).endSlot i e.status := by
    rw [State.endingReaches, if_neg resting, State.withdraw_eq (State.unbegun_of_not_flying flying)]
    rfl
  rcases ending with ⟨rfl, rfl⟩ | ⟨rfl, rfl⟩ | ⟨rfl, rfl⟩
  · exact (State.deliverTransition_ending reached (.inl ⟨rfl, rfl⟩)).trans (ends .peerSilent)
  · exact (State.deliverTransition_ending reached (.inr (.inl ⟨rfl, rfl⟩))).trans (ends .peerLeft)
  · exact (State.deliverTransition_ending reached (.inr (.inr ⟨rfl, rfl⟩))).trans (ends .peerMismatch)

/-- Settles O43: the slot reached and the course the transition takes on it. -/
theorem transitionsReachTheActiveSlot : Obligations.TransitionsReachTheActiveSlot := by
  intro s d before
  refine ⟨fun inactive after => State.deliverTransition_of_none (State.reached_eq_none inactive) before after, ?_⟩
  intro i active destination only
  have reached := State.reached_eq_some active destination only
  refine ⟨fun after e flying ending => ?_, fun l flying => ?_, fun l flying low => ?_, fun l flying high parked => ?_,
    fun l flying high unparked => ?_, fun k quiet parked => ?_, (State.deliverTransition_present reached).2,
    fun after st flying ending => ?_⟩
  · rw [State.deliverTransition_ending reached ending]
    exact if_pos flying
  · rw [State.deliverTransition_quiet reached]
    exact if_pos flying
  · have resting : ¬s.inFlight i = true := by simp [State.inFlight_eq, flying]
    rw [State.deliverTransition_quiet reached, State.quietReaches, if_neg resting, if_pos low,
      State.withdraw_eq (State.unbegun_of_not_flying flying)]
    rfl
  · have resting : ¬s.inFlight i = true := by simp [State.inFlight_eq, flying]
    rw [State.deliverTransition_quiet reached, State.quietReaches, if_neg resting, if_neg (not_le.2 high), parked]
    rfl
  · have resting : ¬s.inFlight i = true := by simp [State.inFlight_eq, flying]
    rw [State.deliverTransition_quiet reached, State.quietReaches, if_neg resting, if_neg (not_le.2 high),
      if_neg (mt SlotState.isParked_iff.1 unparked)]
  · exact (State.deliverTransition_present reached).1 parked ⟨k, quiet⟩
  · have ends := State.deliverTransition_gone (before := before) reached flying ending
    have link : ((s.withoutFrame i).endSlot i st).link = s.linkWithout i := by simp [State.withoutFrame]
    rw [ends]
    refine ⟨rfl, (s.withoutFrame i).endSlot_slot_self i st, link, fun j hj other => ?_,
      fun j st' behind hd record gone => ?_, ?_⟩
    · exact State.endSlot_slot_other (s := s.withoutFrame i) hj (by rwa [← destination] at other)
    · have placed (u : Urgency) : placement u (s.peer d).state = .ended st' := by
        rw [record]
        rcases gone with ⟨rfl, rfl⟩ | ⟨rfl, rfl⟩ | ⟨rfl, rfl⟩ <;> rfl
      exact State.endSlot_of_gone (s := s.withoutFrame i) active destination only placed behind hd
    · rw [(s.withoutFrame i).endSlot_eq_requester]
      rfl

end Sys2Proof.Machine
end

end

section

/-! SUPPORT. Peers and the responder: the frames and the silence that set a record, the segments a station serves and what its context table makes
of them, with the proofs of their statements. -/

set_option Elab.async false

section
/-! The peer monitor: what frames and beacons heard, and silence, make of a record. -/

namespace Sys2Proof.Machine

variable {s : State} {d : StationNo}

/-! ### Frames heard -/

theorem State.receive_of_good {h : Heard} {f : Frame} (good : readFrame s.link.layout h = .good f) (other : f.source ≠ s.own) :
    s.receive h = (s.endHeard f.reserves).deliverFrame f (s.link.layout == .replySlot) := by
  simp only [State.receive, good, if_neg other]

/-- A good frame read in the contended layout ends in RESERVED or in a GAP, and is then delivered (R131, R139). -/
theorem execFrameReceived_of_contended {h : Heard} {f : Frame} (idle : s.nothingDue)
    (hearing : s.link.medium = .receiving ∨ s.link.medium = .contention ∧ s.link.contending = false)
    (layout : s.link.layout = .contended) (head : s.link.followTail = false)
    (good : readFrame .contended h = .good f) (other : f.source ≠ s.own) :
    execFrameReceived h s =
      .next ((if f.reserves then s.enterReserved else s.enterGap .ordinary).deliverFrame f false).checkLeaving := by
  rw [execFrameReceived_of_head idle (State.hearing_iff.2 hearing) head, State.receive_of_good (layout ▸ good) other,
    State.endHeard_of_contended layout, layout]
  rfl

/-! ### Transitions -/

theorem State.peerBecomes_of_eq {after : PeerState} (same : (s.peer d).state = after) : s.peerBecomes d after = s :=
  if_pos same

/-- A record that takes another state posts its notice and is delivered (R155, R156). -/
theorem State.peerBecomes_of_ne {after : PeerState} (changed : (s.peer d).state ≠ after) :
    s.peerBecomes d after =
      ((s.setPeer d { s.peer d with state := after }).post
        { kind := after.notice, station := d, detail := .number after.noticeDetail }).deliverTransition d
          (s.peer d).state after :=
  if_neg changed

theorem State.setPeer_setPeer (p q : PeerRecord) : (s.setPeer d p).setPeer d q = s.setPeer d q := by
  simp [State.setPeer, State.setPeers]

theorem State.peer_setPeer_self (p : PeerRecord) : (s.setPeer d p).peer d = p := by
  rw [State.peer_setPeer, if_pos rfl]

/-- A record replaced and then given a state (R150). -/
theorem State.setPeer_peerBecomes (p : PeerRecord) (after : PeerState) :
    (s.setPeer d p).peerBecomes d after =
      if p.state = after then s.setPeer d p
      else
        ((s.setPeer d { p with state := after }).post
          { kind := after.notice, station := d, detail := .number after.noticeDetail }).deliverTransition d p.state after := by
  split
  · rename_i same
    exact State.peerBecomes_of_eq (by rw [State.peer_setPeer_self, same])
  · rename_i changed
    rw [State.peerBecomes_of_ne (by rwa [State.peer_setPeer_self]), State.peer_setPeer_self, State.setPeer_setPeer]

/-! ### Beacons -/

/-- A good BEACON keeps its sequence, and makes of the record what its state code calls for (R150 to R152). -/
theorem State.hearBeacon_of_some {b : Beacon} {st : PeerState} (other : (s.peer b.source).state ≠ .self)
    (called : s.beaconCallsFor b = some st) :
    s.hearBeacon b =
      (s.setPeer b.source { s.peer b.source with silenceCount := 0, lastSequence := some b.sequence }).peerBecomes
        b.source st := by
  unfold State.hearBeacon
  split
  · contradiction
  · simp only [called]

theorem State.hearBeacon_of_none {b : Beacon} (other : (s.peer b.source).state ≠ .self)
    (uncalled : s.beaconCallsFor b = none) :
    s.hearBeacon b =
      s.setPeer b.source { s.peer b.source with silenceCount := 0, lastSequence := some b.sequence } := by
  unfold State.hearBeacon
  split
  · contradiction
  · simp only [uncalled]

/-- The states a BEACON calls for, with their notices (R150, R151, R155). -/
theorem State.beaconCallsFor_of_case {b : Beacon} {st : PeerState} {k : NoticeKind} {detail : Urgency}
    (h : b.stateCode = 0 ∧ s.link.ownDigest = some b.digest ∧ st = .present ∧ k = .peerUp ∧ detail = 0 ∨
      b.stateCode = 1 ∧ s.link.ownDigest = some b.digest ∧ st = .quiet b.wakeLevel ∧ k = .peerQuiet ∧
        detail = b.wakeLevel ∨
      (b.stateCode = 0 ∨ b.stateCode = 1) ∧ s.link.ownDigest ≠ some b.digest ∧ st = .mismatched ∧
        k = .peerMismatch ∧ detail = 0 ∨
      b.stateCode = 2 ∧ st = .absent ∧ k = .peerLeft ∧ detail = 0) :
    s.beaconCallsFor b = some st ∧ st.notice = k ∧ st.noticeDetail = detail := by
  rcases h with ⟨code, digest, rfl, rfl, rfl⟩ | ⟨code, digest, rfl, rfl, rfl⟩ | ⟨code | code, digest, rfl, rfl, rfl⟩ |
    ⟨code, rfl, rfl, rfl⟩ <;>
    simp [State.beaconCallsFor, PeerState.notice, PeerState.noticeDetail, *]

/-- Settles O42: the frame ends in a GAP, and its BEACON sets the record by what it calls for. -/
theorem beaconsHeardSetTheRecord : Obligations.BeaconsHeardSetTheRecord := by
  intro s h b idle hearing layout head good other peer
  have received := execFrameReceived_of_contended idle hearing layout head good other
  refine ⟨fun st k detail calls => received.trans ?_, fun code => received.trans ?_⟩
  · obtain ⟨called, notice, noticeDetail⟩ := State.beaconCallsFor_of_case calls
    have heard := State.hearBeacon_of_some (s := s.enterGap .ordinary) peer called
    rw [State.setPeer_peerBecomes] at heard
    refine congrArg (fun t : State => Host.Outcome.next t.checkLeaving) (heard.trans ?_)
    by_cases same : (s.peer b.source).state = st
    · subst st
      exact (if_pos rfl).trans (if_pos rfl).symm
    · rw [if_neg same, notice, noticeDetail]
      exact if_neg same
  · have uncalled : (s.enterGap .ordinary).beaconCallsFor b = none := by simp [State.beaconCallsFor, code]
    have heard := State.hearBeacon_of_none (s := s.enterGap .ordinary) peer uncalled
    exact congrArg (fun t : State => Host.Outcome.next t.checkLeaving) heard

/-! ### Silence -/

theorem State.post_of_room {n : Notice} (room : s.notices.records.length < 8) :
    s.post n = { s with notices := { s.notices with records := s.notices.records ++ [n] } } := by
  exact congrArg (fun q => ({ s with notices := q } : State)) (if_pos room)

theorem State.post_of_full {n : Notice} (full : 8 ≤ s.notices.records.length) :
    s.post n = { s with notices := { s.notices with lost := true } } := by
  exact congrArg (fun q => ({ s with notices := q } : State)) (if_neg (Nat.not_lt.2 full))

theorem State.silenceDue_iff :
    s.silenceDue d = true ↔ (s.peer d).state ≠ .self ∧ (s.peer d).state ≠ .absent ∧ (s.peer d).state ≠ .silent ∧
      3 ≤ (s.peer d).silenceCount := by
  have aged (p : PeerState) : p.aged = true ↔ p ≠ .self ∧ p ≠ .absent ∧ p ≠ .silent := by
    cases p <;> simp [PeerState.aged]
  rw [State.silenceDue, Bool.and_eq_true, aged, decide_eq_true_iff, and_assoc, and_assoc]
  rfl

/-- The record below which none is due is the one found (R153). -/
theorem State.firstSilent_eq_some (due : s.silenceDue d = true) (least : ∀ e, e < d → s.silenceDue e = false) :
    s.firstSilent = some d := by
  refine List.find?_eq_some_iff_getElem.2 ⟨due, d.val, by simp, by simp, fun k hk => ?_⟩
  simpa using least ⟨k, by omega⟩ hk

/-- Settles O44: the two branches of a posted notice, and the record that `silenceOne` finds. -/
theorem silentPeersArePostedInOrder : Obligations.SilentPeersArePostedInOrder := by
  intro s
  refine ⟨fun n => State.post_of_room, fun n => State.post_of_full, fun d due least => ?_, fun undue => ?_⟩
  · have first := State.firstSilent_eq_some (State.silenceDue_iff.2 due)
      fun e he => Bool.eq_false_iff.2 (mt State.silenceDue_iff.1 (least e he))
    have silent : s.silenceOne = s.peerBecomes d .silent := by rw [State.silenceOne, first]
    refine congrArg _ (silent.trans ((State.peerBecomes_of_ne due.2.2.1).trans ?_))
    rfl
  · have first : s.firstSilent = none := by
      simpa [State.firstSilent, List.find?_eq_none] using
        fun d => Bool.eq_false_iff.2 (mt State.silenceDue_iff.1 (undue d))
    have quiet : s.silenceOne = s := by rw [State.silenceOne, first]
    exact congrArg _ quiet

end Sys2Proof.Machine
end

section
/-! The responder's timers, and SEGMENTS delivered to the responder. -/

namespace Sys2Proof.Machine

variable {s : State} {j : EntryNo} {g : Segment}

/-! ### The responder's timers -/

/-- The one context whose answer is owed is the one found (R87). -/
theorem State.owedContext_eq_some (owed : (s.context j).answerOwed = true)
    (only : ∀ k, k ≠ j → (s.context k).answerOwed = false) : s.owedContext = some j :=
  lowestOf_eq_some_of_least owed fun k hk => only k (ne_of_lt hk)

/-- Settles O49: both expiries by the branches of the timer and of the entry's state. -/
theorem holdPointAndLifetimeExpire : Obligations.HoldPointAndLifetimeExpire := by
  intro s j
  refine ⟨fun n timer owed only => ?_, fun stopped => ?_, fun r n ready => ?_, fun r t n answered => ?_, fun untimed => ?_⟩
  · simp only [exec, execHoldPointExpiry, timer, State.owedContext_eq_some owed only]
    rfl
  · simp only [exec, execHoldPointExpiry, stopped]
  · simp only [exec, execContextLifetimeExpiry, ready]
    rfl
  · simp only [exec, execContextLifetimeExpiry, answered]
    rfl
  · rcases untimed with free | queued | cycling
    · simp only [exec, execContextLifetimeExpiry, free]
    · simp only [exec, execContextLifetimeExpiry, queued]
    · simp only [exec, execContextLifetimeExpiry, cycling]

/-! ### What a SEGMENT says of itself -/

theorem Segment.malformed_iff :
    g.malformed = true ↔
      g.length.toNat = 0 ∨ 16 < g.length.toNat ∨ 256 < g.offset.toNat + g.length.toNat ∨
        (g.op = .write ∧ g.data.length ≠ g.length.toNat) ∨ (g.op = .read ∧ g.data ≠ []) := by
  simp only [Segment.malformed, Bool.or_eq_true, beq_iff_eq, decide_eq_true_eq, or_assoc]
  refine or_congr Iff.rfl (or_congr Iff.rfl (or_congr Iff.rfl ?_))
  cases g.op <;> simp

/-- The entry that holds a key, and no other does, is the one the lookup finds (R77). -/
theorem State.findContext_eq_some_of_key (hj : (s.context j).key = some (g.source, g.tag))
    (only : ∀ k, k ≠ j → (s.context k).key ≠ some (g.source, g.tag)) : s.findContext g.source g.tag = some j :=
  lowestOf_eq_some_of_least (Context.holds_iff.2 hj) fun k hk =>
    Bool.eq_false_iff.2 (mt Context.holds_iff.1 (only k (ne_of_lt hk)))

/-- No entry holds the key of a segment that the lookup finds no context for. -/
theorem State.findContext_eq_none_iff :
    s.findContext g.source g.tag = none ↔ ∀ k, (s.context k).key ≠ some (g.source, g.tag) :=
  ⟨State.findContext_eq_none, fun h => lowestOf_eq_none.2 fun k => Bool.eq_false_iff.2 (mt Context.holds_iff.1 (h k))⟩

/-- A segment is a continuation when its first flag is clear, or at another offset under the key of a context of its
generation (R73). -/
theorem State.continuation_iff (kept : s.keysKept) :
    s.continuation g = true ↔
      g.firstFlag = false ∨
        g.offset ≠ 0 ∧ ∃ j, (s.context j).state ≠ .free ∧ (s.context j).orphan = .clear ∧
          (s.context j).requester = g.source ∧ (s.context j).tag = g.tag ∧ (s.context j).generation = g.generation := by
  simp only [State.continuation, Bool.or_eq_true, Bool.not_eq_true', Bool.and_eq_true, bne_iff_ne]
  refine or_congr Iff.rfl (and_congr Iff.rfl ?_)
  split
  · rename_i j found
    obtain ⟨held, clear, requester, tag⟩ := Context.key_eq_some.1 (State.findContext_eq_some found)
    rw [beq_iff_eq]
    refine ⟨fun generation => ⟨j, held, clear, requester, tag, generation⟩, ?_⟩
    rintro ⟨k, held', clear', requester', tag', generation⟩
    rwa [kept j k held clear held' clear' (requester.trans requester'.symm) (tag.trans tag'.symm)]
  · rename_i unfound
    refine ⟨fun h => absurd h (by simp), ?_⟩
    rintro ⟨k, held, clear, requester, tag, -⟩
    exact absurd (Context.key_eq_some.2 ⟨held, clear, requester, tag⟩) (State.findContext_eq_none unfound k)

/-! ### A SEGMENT heard -/

/-- A return to PRESENT from ABSENT or SILENT reaches no slot (R57). -/
theorem State.deliverTransition_returns {d : StationNo} {before : PeerState} (h : ∀ l, before ≠ .quiet l) :
    s.deliverTransition d before .present = s := by
  unfold State.deliverTransition
  split
  · rfl
  · cases before with
    | quiet l => exact absurd rfl (h l)
    | _ => rfl

/-- What a frame heard leaves of the record of a peer, and the notice of a return (R149, R155). -/
theorem State.hearFrame_eq {d : StationNo} (other : (s.peer d).state ≠ .self) :
    s.hearFrame d =
      let returns : Bool := (s.peer d).state = .absent ∨ (s.peer d).state = .silent
      { s with
        peers := s.peers.set d
          { s.peer d with silenceCount := 0, state := if returns then .present else (s.peer d).state }
        notices :=
          if returns then (s.post { kind := .peerUp, station := d, detail := .number 0 }).notices else s.notices } := by
  have back (returned : (s.peer d).state = .absent ∨ (s.peer d).state = .silent) :
      (s.peerHeard d).peerBecomes d .present =
        (s.setPeer d { s.peer d with silenceCount := 0, state := .present }).post
          { kind := .peerUp, station := d, detail := .number 0 } := by
    rw [State.peerHeard, State.setPeer_peerBecomes, if_neg (by rcases returned with h | h <;> simp [h]),
      State.deliverTransition_returns (by rcases returned with h | h <;> simp [h])]
    rfl
  dsimp only
  by_cases returned : (s.peer d).state = .absent ∨ (s.peer d).state = .silent
  · have heard : s.hearFrame d = (s.peerHeard d).peerBecomes d .present := by
      rcases returned with h | h <;> rw [State.hearFrame, h]
    rw [heard, back returned, decide_eq_true returned]
    rfl
  · have heard : s.hearFrame d = s.peerHeard d := by
      unfold State.hearFrame
      split <;> simp_all
    rw [heard, decide_eq_false returned]
    rfl

end Sys2Proof.Machine
end

section
/-! SEGMENTS delivered to the responder, by the station state. -/

namespace Sys2Proof.Machine

variable {s : State} {g : Segment}

theorem State.deliverSegment_of_listening (listening : s.controller.station = .listening) : s.deliverSegment g = s := by
  rw [State.deliverSegment, listening]

theorem State.deliverSegment_of_leaving (leaving : s.controller.station = .leaving) :
    s.deliverSegment g = s.answerBusy g := by
  rw [State.deliverSegment, leaving]

theorem State.deliverSegment_of_active (active : s.controller.station = .active) :
    s.deliverSegment g = if g.malformed then s.answerRefused g .malformed else s.lookup g := by
  rw [State.deliverSegment, active]

theorem State.deliverSegment_of_quiet {l : Urgency} (quiet : s.controller.station = .quiet l) :
    s.deliverSegment g =
      if g.malformed then s.answerRefused g .malformed
      else if s.continuation g then s.lookup g
      else if l < g.urgency then (s.wakeReport g).lookup g
      else s.answerBusy g := by
  rw [State.deliverSegment, quiet]

theorem State.deliverSegment_of_malformed (malformed : g.malformed = true)
    (on : s.controller.station = .active ∨ ∃ l, s.controller.station = .quiet l) :
    s.deliverSegment g = s.answerRefused g .malformed := by
  rcases on with active | ⟨l, quiet⟩
  · rw [State.deliverSegment_of_active active, if_pos malformed]
  · rw [State.deliverSegment_of_quiet quiet, if_pos malformed]

/-- A SEGMENT heard reserves the line, makes its source PRESENT, and reaches the responder of its destination (R69, R131, R139). -/
theorem execFrameReceived_of_segment {h : Heard} {t : State} (idle : s.nothingDue)
    (hearing : s.link.medium = .receiving ∨ s.link.medium = .contention ∧ s.link.contending = false)
    (layout : s.link.layout = .contended) (head : s.link.followTail = false)
    (good : readFrame .contended h = .good (.segment g)) (other : g.source ≠ s.own)
    (heard : s.enterReserved.hearFrame g.source = t) :
    (g.destination ≠ s.own → execFrameReceived h s = .next t.checkLeaving) ∧
      (g.destination = s.own → execFrameReceived h s = .next (t.deliverSegment g).checkLeaving) := by
  have received := execFrameReceived_of_contended idle hearing layout head good other
  subst t
  refine ⟨fun elsewhere => received.trans ?_, fun here => received.trans ?_⟩
  · exact congrArg (fun u : State => Host.Outcome.next u.checkLeaving) (if_neg elsewhere)
  · exact congrArg (fun u : State => Host.Outcome.next u.checkLeaving) (if_pos here)

/-- Outside LEAVING the look at the end condition after a delivery changes nothing. -/
theorem State.lookup_checkLeaving (station : s.controller.station ≠ .leaving) :
    (s.lookup g).checkLeaving = s.lookup g :=
  State.checkLeaving_of_not_leaving (by simpa using station)

theorem State.wakeReport_station : (s.wakeReport g).controller.station = .active := by
  simp [State.wakeReport, State.enter]

/-- Settles O45: what is heard of the source, and the responder's answer by the station state. -/
theorem segmentsReachTheResponder : Obligations.SegmentsReachTheResponder := by
  refine ⟨fun g => Segment.malformed_iff, fun s g => State.continuation_iff, ?_⟩
  intro s h g idle hearing layout head good other peer returns s1 placed
  have heard : s.enterReserved.hearFrame g.source = s1 := State.hearFrame_eq (s := s.enterReserved) peer
  obtain ⟨elsewhere, here⟩ := execFrameReceived_of_segment idle hearing layout head good other heard
  have station : s1.controller.station = s.controller.station := rfl
  have continuation : s1.continuation g = s.continuation g := rfl
  refine ⟨elsewhere, fun own => ⟨fun listening => (here own).trans ?_, fun leaving => (here own).trans ?_,
    fun on malformed => (here own).trans ?_, fun active formed => (here own).trans ?_, fun l quiet formed => ?_⟩⟩
  · rw [State.deliverSegment_of_listening (station.trans listening),
      State.checkLeaving_of_not_leaving (by simp [station, listening])]
  · rw [State.deliverSegment_of_leaving (station.trans leaving)]
    rfl
  · rw [State.deliverSegment_of_malformed malformed (by rwa [station]), State.checkLeaving_of_not_leaving]
    · rfl
    · rcases on with active | ⟨l, quiet⟩ <;> simp [State.answerRefused, *]
  · rw [State.deliverSegment_of_active (station.trans active), formed]
    exact congrArg _ (State.lookup_checkLeaving (by simp [station, active]))
  · have delivered := State.deliverSegment_of_quiet (g := g) (station.trans quiet)
    rw [formed, continuation] at delivered
    refine ⟨fun continues => (here own).trans ?_, fun fresh above => (here own).trans ?_,
      fun fresh below => (here own).trans ?_⟩
    · rw [delivered, continues]
      exact congrArg _ (State.lookup_checkLeaving (by simp [station, quiet]))
    · rw [delivered, fresh]
      have woken : (if l < g.urgency then (s1.wakeReport g).lookup g else s1.answerBusy g) = (s1.wakeReport g).lookup g :=
        if_pos above
      exact congrArg _ ((congrArg State.checkLeaving woken).trans
        (State.lookup_checkLeaving (by simp [State.wakeReport_station])))
    · rw [delivered, fresh]
      have answered : (if l < g.urgency then (s1.wakeReport g).lookup g else s1.answerBusy g) = s1.answerBusy g :=
        if_neg (not_lt.2 below)
      exact congrArg _ ((congrArg State.checkLeaving answered).trans
        (State.checkLeaving_of_not_leaving (by simp [State.answerBusy, station, quiet])))

end Sys2Proof.Machine
end

section
/-! Segments whose key no context holds. -/

namespace Sys2Proof.Machine

variable {s : State} {g : Segment} {j : EntryNo}

/-- The key of a segment is held by no entry: the lookup finds no context (R77). -/
structure State.Unknown (s : State) (g : Segment) : Prop where
  free : ∀ j, (s.context j).state ≠ .free → (s.context j).orphan = .clear → (s.context j).requester = g.source →
    (s.context j).tag ≠ g.tag

theorem State.Unknown.findContext (h : s.Unknown g) : s.findContext g.source g.tag = none := by
  refine State.findContext_eq_none_iff.2 fun k key => ?_
  obtain ⟨held, clear, requester, tag⟩ := Context.key_eq_some.1 key
  exact h.free k held clear requester tag

/-- A segment that finds no context goes by case 6, at offset 0 with its first flag too, which is treated as new there as
well (R78, R83). -/
theorem State.lookup_of_unknown (h : s.Unknown g) : s.lookup g = s.serveUnknown g := by
  simp only [State.lookup, h.findContext]
  split
  · rename_i first
    rw [State.serveUnknown, if_pos first.1]
  · rfl

/-! ### Admission -/

theorem State.treatAsNew_of_refused {c : Cause} (refused : s.admission g = .refused c) :
    s.treatAsNew g none = s.answerRefused g c ∧ s.treatAsNew g (some j) = (s.freeContext j).answerRefused g c := by
  constructor <;> simp only [State.treatAsNew, refused]

theorem State.treatAsNew_of_admitted {w : EntryNo} {n : Nat} (admitted : s.admission g = .admitted w n)
    (entry : Option EntryNo) : s.treatAsNew g entry = s.takeAdmitted g entry w n := by
  simp only [State.treatAsNew, admitted]

theorem State.serveUnknown_of_refused {c : Cause} (refused : s.admission g = .refused c) :
    s.serveUnknown g = s.answerRefused g c := by
  unfold State.serveUnknown
  split
  · exact (State.treatAsNew_of_refused (j := 0) refused).1
  · rw [refused]

/-- Without its first flag a segment is lost to replay, unless it is a READ of a prefetchable window (R83). -/
theorem State.serveUnknown_of_lost {w : EntryNo} {n : Nat} (admitted : s.admission g = .admitted w n)
    (notFirst : g.firstFlag = false) (lost : ¬(g.op = .read ∧ s.windows[w].prefetchable = true)) :
    s.serveUnknown g = s.answerRefused g .replayLost := by
  rw [State.serveUnknown, notFirst, admitted]
  exact if_neg lost

theorem State.serveUnknown_of_taken {w : EntryNo} {n : Nat} (admitted : s.admission g = .admitted w n)
    (taken : g.firstFlag = true ∨ g.op = .read ∧ s.windows[w].prefetchable = true) :
    s.serveUnknown g = s.takeAdmitted g none w n := by
  unfold State.serveUnknown
  split
  · exact State.treatAsNew_of_admitted admitted none
  · rename_i notFirst
    rw [admitted]
    exact if_pos (taken.resolve_left notFirst)

/-! ### The entry of a new context -/

theorem ContextState.isFree_iff {x : ContextState} : x.isFree = true ↔ x = .free := by
  cases x <;> simp [ContextState.isFree]

/-- The lowest FREE entry is given, else the ANSWERED one answered before every other (R85). -/
theorem State.entryFor_eq_some
    (h : (s.context j).state = .free ∧ (∀ k, k < j → (s.context k).state ≠ .free) ∨
      (∀ k, (s.context k).state ≠ .free) ∧ (s.context j).state.isAnswered = true ∧
        (∀ k, k ≠ j → (s.context k).state.isAnswered = true →
          (s.context j).state.answeredTime < (s.context k).state.answeredTime)) : s.entryFor = some j := by
  unfold State.entryFor
  rcases h with ⟨free, lowest⟩ | ⟨full, answered, oldest⟩
  · rw [lowestOf_eq_some_of_least (ContextState.isFree_iff.2 free)
      fun k hk => Bool.eq_false_iff.2 (mt ContextState.isFree_iff.1 (lowest k hk))]
  · rw [lowestOf_eq_none.2 fun k => Bool.eq_false_iff.2 (mt ContextState.isFree_iff.1 (full k))]
    exact bestOf_eq_some_of_least (key := fun k => (s.context k).state.answeredTime) answered oldest

theorem State.entryFor_eq_none (h : ∀ k, (s.context k).state ≠ .free ∧ (s.context k).state.isAnswered = false) :
    s.entryFor = none := by
  unfold State.entryFor
  rw [lowestOf_eq_none.2 fun k => Bool.eq_false_iff.2 (mt ContextState.isFree_iff.1 (h k).1)]
  exact bestOf_eq_none.2 fun k => (h k).2

/-- The buffer of a new context takes a WRITE's data bytes and keeps the rest of what the entry held (R86). -/
theorem bufferAtCreation_eq (old : Vector Byte 16) (g : Segment) :
    bufferAtCreation old g =
      Vector.ofFn fun k => if g.op = .write ∧ k.val < g.data.length then g.data.getD k.val 0 else old[k] := by
  unfold bufferAtCreation
  cases g.op with
  | read =>
    refine Vector.ext fun k hk => ?_
    simp
  | write => simp

/-- The context a segment creates in an entry, its answer owed (R86, R87). -/
theorem State.createContext_eq (s : State) (j : EntryNo) (g : Segment) (w : EntryNo) (n : Nat) :
    s.createContext j g w n =
      { s with responder :=
          { contexts := s.responder.contexts.set j
              { state := .queued, requester := g.source, tag := g.tag, generation := g.generation, op := g.op,
                offset := g.offset, address := g.address, window := w, lengthInWindow := n, bytesMoved := 0,
                data := Vector.ofFn fun k =>
                  if g.op = .write ∧ k.val < g.data.length then g.data.getD k.val 0 else (s.context j).data[k],
                writePerformed := false, orphan := .clear, answerOwed := true,
                creation := s.responder.creationNext }
            holdTimer := some (s.aw / 2)
            creationNext := s.responder.creationNext + 1
            answeredNext := s.responder.answeredNext } } := by
  simp only [State.createContext, bufferAtCreation_eq]
  rfl

/-- Settles O47: a segment that finds no context, by its admission and the entries. -/
theorem unknownSegmentsTakeAnEntry : Obligations.UnknownSegmentsTakeAnEntry := by
  intro s g unheld placed
  have unknown := State.lookup_of_unknown ⟨unheld⟩
  refine ⟨fun c refused => ?_, fun w n admitted => ⟨fun notFirst lost => ?_, fun taken => ?_⟩⟩
  · rw [unknown, State.serveUnknown_of_refused refused]
    rfl
  · rw [unknown, State.serveUnknown_of_lost admitted notFirst lost]
    rfl
  · have takes := unknown.trans (State.serveUnknown_of_taken admitted taken)
    refine ⟨fun j entry => ?_, fun full => ?_⟩
    · rw [takes, State.takeAdmitted, State.entryFor_eq_some entry]
      exact State.createContext_eq s j g w n
    · rw [takes, State.takeAdmitted, State.entryFor_eq_none full]
      rfl

end Sys2Proof.Machine
end

section
/-! Segments whose key a context holds. -/

namespace Sys2Proof.Machine

variable {s : State} {g : Segment} {j : EntryNo}

/-! ### A context discarded -/

/-- A discarded context is FREE or a silent orphan, and no other entry changes (R78). -/
theorem State.context_discardContext (held : (s.context j).state ≠ .free) (k : EntryNo) :
    (k ≠ j → (s.discardContext j).context k = s.context k) ∧
      (((s.discardContext j).context j).state = .free ∨ ((s.discardContext j).context j).orphan = .replaced) := by
  have freed (t : State) (same : ∀ i, t.context i = s.context i) :
      (k ≠ j → (t.freeContext j).context k = s.context k) ∧
        (((t.freeContext j).context j).state = .free ∨ ((t.freeContext j).context j).orphan = .replaced) := by
    refine ⟨fun hk => ?_, Or.inl ?_⟩
    · rw [State.context_freeContext, if_neg hk, same]
    · rw [State.context_freeContext, if_pos rfl]
      rfl
  cases hc : (s.context j).state with
  | free => exact absurd hc held
  | queued =>
    rw [State.discardContext, hc]
    exact freed s fun _ => rfl
  | cycling =>
    rw [State.discardContext, hc]
    refine ⟨fun hk => ?_, Or.inr ?_⟩
    · rw [State.context_setContext, if_neg hk]
    · rw [State.context_setContext_self]
  | ready r life =>
    rw [State.discardContext, hc]
    exact freed (s.postDropped j .replaced) fun _ => rfl
  | answered r time life =>
    rw [State.discardContext, hc]
    exact freed s fun _ => rfl

/-- With the one context of its key discarded, a segment finds none (R77, R78). -/
theorem State.discardContext_unknown (held : (s.context j).state ≠ .free)
    (only : ∀ k, k ≠ j → (s.context k).state ≠ .free → (s.context k).orphan = .clear →
      (s.context k).requester = g.source → (s.context k).tag ≠ g.tag) : (s.discardContext j).Unknown g := by
  refine ⟨fun k heldThen clear => ?_⟩
  obtain ⟨others, gone⟩ := State.context_discardContext held k
  by_cases hk : k = j
  · subst hk
    rcases gone with free | orphan
    · exact absurd free heldThen
    · exact absurd (orphan.symm.trans clear) (by decide)
  · rw [others hk] at heldThen clear ⊢
    exact only k hk heldThen clear

/-! ### The cases of the lookup -/

/-- A first segment at offset 0 and one of another generation go on as the segment of an unknown key (R78). -/
theorem State.lookup_of_discarded (found : s.findContext g.source g.tag = some j)
    (unknown : (s.discardContext j).Unknown g)
    (discards : g.firstFlag = true ∧ g.offset = 0 ∨ (s.context j).generation ≠ g.generation) :
    s.lookup g = (s.discardContext j).lookup g := by
  rw [State.lookup_of_unknown unknown]
  by_cases first : g.firstFlag = true ∧ g.offset = 0
  · simp only [State.lookup, found, if_pos first, State.serveUnknown, if_pos first.1]
  · simp only [State.lookup, found, if_neg first, if_neg (discards.resolve_left first)]

/-- Any other segment is served by its offset (R79 to R82). -/
theorem State.lookup_of_kept (found : s.findContext g.source g.tag = some j)
    (follows : ¬(g.firstFlag = true ∧ g.offset = 0)) (same : (s.context j).generation = g.generation) :
    s.lookup g =
      if (s.context j).offset = g.offset then s.serveRepeat g j
      else if (s.context j).offset.toNat < g.offset.toNat then s.supersede g j
      else s.answerRefused g .malformed := by
  simp only [State.lookup, found, if_neg follows, if_pos same]

/-- A stored result is answered at a new place of the answering order, with a new lifetime (R80, R90). -/
theorem State.answerStored_eq (s : State) (j : EntryNo) (r : RunResult) :
    s.answerStored j r =
      { s with
        link := { s.link with answer := some (s.resultAnswer (s.context j) r), answerBegun := false }
        responder := { s.responder with
          contexts := s.responder.contexts.set j
            { s.context j with state := .answered r s.responder.answeredNext s.cl, answerOwed := false }
          answeredNext := s.responder.answeredNext + 1 } } := rfl

/-- The answer of a stored result goes to the segment it repeats (R70, R80). -/
theorem State.resultAnswer_of_repeated {c : Context} (requester : c.requester = g.source) (tag : c.tag = g.tag)
    (same : c.generation = g.generation) (offset : g.offset = c.offset) (s : State) (r : RunResult) :
    s.resultAnswer c r =
      match r with
      | .taken n =>
        s.answerOf g.source g.tag g.generation g.offset .taken 0 (BitVec.ofNat 8 n)
          (if c.op = .read then c.data.toList.take n else [])
      | .refused cause =>
        s.answerOf g.source g.tag g.generation g.offset .refused (BitVec.ofNat 4 cause.code) 0 [] := by
  unfold State.resultAnswer
  rw [requester, tag, same, offset]
  split
  · cases c.op <;> rfl
  · rfl

/-- A repeat of the same operation is answered from the stored result (R80). -/
theorem State.serveRepeat_of_stored {r : RunResult} (op : g.op = (s.context j).op)
    (stored : (∃ life, (s.context j).state = .ready r life) ∨ ∃ time life, (s.context j).state = .answered r time life) :
    s.serveRepeat g j = s.answerStored j r := by
  simp only [State.serveRepeat, if_neg (not_not.2 op)]
  rcases stored with ⟨life, h⟩ | ⟨time, life, h⟩ <;> rw [h]

/-- A repeat while the run goes on has its answer owed again (R80). -/
theorem State.serveRepeat_of_running (op : g.op = (s.context j).op)
    (running : (s.context j).state = .queued ∨ (s.context j).state = .cycling) :
    s.serveRepeat g j =
      { s with responder := { s.responder with
          contexts := s.responder.contexts.set j { s.context j with answerOwed := true }
          holdTimer := some (s.aw / 2) } } := by
  simp only [State.serveRepeat, if_neg (not_not.2 op)]
  rcases running with h | h <;> rw [h] <;> rfl

/-! ### A larger offset -/

/-- The notices of a context's dropping, posted when a READY context is superseded (R81). -/
def State.supersededNotices (s : State) (j : EntryNo) : Notices :=
  match (s.context j).state with
  | .ready _ _ => (s.postDropped j .replaced).notices
  | _ => s.notices

/-- A context that waits for nothing more gives up its entry (R81). -/
theorem State.supersede_of_ended (held : (s.context j).state ≠ .free)
    (ended : ¬((s.context j).state = .queued ∨ (s.context j).state = .cycling)) :
    s.supersede g j = { s with notices := s.supersededNotices j }.treatAsNew g (some j) := by
  unfold State.supersede State.supersededNotices
  cases h : (s.context j).state with
  | free => exact absurd h held
  | queued => exact absurd (Or.inl h) ended
  | cycling => exact absurd (Or.inr h) ended
  | ready r life => rfl
  | answered r time life => rfl

theorem State.supersede_of_running (running : (s.context j).state = .queued ∨ (s.context j).state = .cycling) :
    s.supersede g j = s.answerBusy g := by
  unfold State.supersede
  rcases running with h | h <;> rw [h]

/-- Settles O48: the cases of the lookup by the segment's flag, generation and offset, and by the state of its context. -/
theorem knownSegmentsAreServed : Obligations.KnownSegmentsAreServed := by
  intro s g j held clear requester tag only c running put freed dropped discarded answer
  have found : s.findContext g.source g.tag = some j :=
    State.findContext_eq_some_of_key (Context.key_eq_some.2 ⟨held, clear, requester, tag⟩) fun k hk key => by
      obtain ⟨heldK, clearK, requesterK, tagK⟩ := Context.key_eq_some.1 key
      exact only k hk heldK clearK requesterK tagK
  have discards : discarded = s.discardContext j := by
    unfold State.discardContext
    cases h : (s.context j).state <;> simp only [discarded, c, h] <;> rfl
  refine ⟨fun first => ?_, fun follows same => ?_⟩
  · rw [discards]
    have unknown := State.discardContext_unknown held only
    exact ⟨State.lookup_of_discarded found unknown first, unknown.free⟩
  have kept := State.lookup_of_kept found follows same
  refine ⟨fun offset op => ?_, fun smaller => ?_, fun larger runs => ?_, fun offset op runs => ?_,
    fun r offset op stored => ?_, fun larger ended => ?_⟩
  · rw [kept, if_pos offset.symm, State.serveRepeat, if_pos op]
    rfl
  · rw [kept, if_neg (fun e => by rw [e] at smaller; exact lt_irrefl _ smaller), if_neg (not_lt.2 smaller.le)]
    rfl
  · rw [kept, if_neg (fun e => by rw [e] at larger; exact lt_irrefl _ larger), if_pos larger, State.supersede_of_running runs]
    rfl
  · rw [kept, if_pos offset.symm, State.serveRepeat_of_running op runs]
  · rw [kept, if_pos offset.symm, State.serveRepeat_of_stored op stored, State.answerStored_eq,
      State.resultAnswer_of_repeated requester tag same offset]
    cases r <;> rfl
  · intro noted
    have notes : s.supersededNotices j = noted := by
      unfold State.supersededNotices
      cases h : (s.context j).state <;> simp only [noted, c, h]
      rfl
    have taken : s.lookup g = { s with notices := noted }.treatAsNew g (some j) := by
      rw [kept, if_neg (fun e => by rw [e] at larger; exact lt_irrefl _ larger), if_pos larger,
        State.supersede_of_ended held ended, notes]
    refine ⟨fun cause refused => ?_, fun w n admitted => ?_⟩
    · exact taken.trans (State.treatAsNew_of_refused (s := { s with notices := noted }) refused).2
    · exact taken.trans ((State.treatAsNew_of_admitted (s := { s with notices := noted }) admitted (some j)).trans
        (State.createContext_eq { s with notices := noted } j g w n))

end Sys2Proof.Machine
end

end

section

/-! SUPPORT. The controller's timers and the target bus: ticks and the listening period, terminations and the end of a run, with the proofs of their
statements. -/

set_option Elab.async false

section
/-! The station controller's timers. -/

namespace Sys2Proof.Machine

variable {s : State}

/-- The tick ages the records whose peer may be heard, and no other (R153). -/
theorem State.agePeers_eq (s : State) :
    s.agePeers =
      { s with peers := Vector.ofFn fun d =>
          { s.peer d with
            silenceCount :=
              match (s.peer d).state with
              | .present | .quiet _ | .mismatched => (s.peer d).silenceCount + 1
              | .self | .absent | .silent => (s.peer d).silenceCount } } := by
  refine congrArg (fun peers => ({ s with peers := peers } : State)) (congrArg Vector.ofFn (funext fun d => ?_))
  change (if (s.peer d).state.aged then { s.peer d with silenceCount := (s.peer d).silenceCount + 1 } else s.peer d) = _
  cases (s.peer d).state <;> rfl

/-- With no frame in the transmit register the beacon is pending (R170). -/
theorem State.queueBeacon_of_empty (empty : s.link.tx = none) (p : PendingBeacon) :
    s.queueBeacon p = { s with controller := { s.controller with pendingBeacon := some p } } := by
  rw [State.queueBeacon_eq, empty]

/-- The end of the listening period after the records are aged, with no frame in the transmit register (R165). -/
theorem State.endListening_eq (empty : s.link.tx = none) (aged : Vector PeerRecord 32) :
    State.endListening { s with peers := aged } =
      { s with
        peers := aged
        controller := { s.controller with
          station := .active, listenTimer := none, pendingBeacon := some { state := .active, wakeLevel := 0 } }
        notices := (s.post { kind := .joined, station := s.own, detail := .number 0 }).notices } := by
  exact State.queueBeacon_of_empty
    (s := ((State.onController (fun c => { c with listenTimer := none }) { s with peers := aged }).enter .active).post
    { kind := .joined, station := s.own, detail := .number 0 }) empty _

section
variable (idle : s.nothingDue)
include idle

/-- A listen timer that runs ends the listening period (R165). -/
theorem execListenTimerExpiry_of_running {left : Nat} (listening : s.controller.station = .listening)
    (timer : s.controller.listenTimer = some left) :
    exec .listenTimerExpiry s = .next s.agePeers.endListening := by
  simp only [exec, execListenTimerExpiry, State.takeDue_of_nothingDue idle, listening, timer]
  rfl

theorem execListenTimerExpiry_of_station (elsewhere : s.controller.station ≠ .listening) :
    exec .listenTimerExpiry s = .next s := by
  simp only [exec, execListenTimerExpiry, State.takeDue_of_nothingDue idle]
  exact congrArg _ (if_neg fun h => elsewhere h.1)

theorem execBeaconPeriodTick_of_running {period : Nat} (timer : s.controller.beaconTimer = some period) :
    exec .beaconPeriodTick s = .next s.agePeers.tickEffect := by
  simp only [exec, execBeaconPeriodTick, State.takeDue_of_nothingDue idle, timer]
  rfl

theorem execBeaconPeriodTick_of_stopped (stopped : s.controller.beaconTimer = none) :
    exec .beaconPeriodTick s = .next s := by
  simp only [exec, execBeaconPeriodTick, State.takeDue_of_nothingDue idle, stopped]
  rfl

end

/-- In LISTENING a tick ends the period or shortens what is left of it (R165). -/
theorem State.tickEffect_of_listening {left : Nat} (listening : s.controller.station = .listening)
    (timer : s.controller.listenTimer = some left) :
    s.tickEffect =
      if left ≤ s.bp then s.endListening
      else s.onController fun c => { c with listenTimer := some (left - s.bp) } := by
  unfold State.tickEffect
  rw [listening, timer]

theorem State.tickEffect_of_listening_aged {left : Nat} (listening : s.controller.station = .listening)
    (timer : s.controller.listenTimer = some left) (aged : Vector PeerRecord 32) :
    State.tickEffect { s with peers := aged } =
      if left ≤ s.bp then State.endListening { s with peers := aged }
      else { s with peers := aged, controller := { s.controller with listenTimer := some (left - s.bp) } } :=
  State.tickEffect_of_listening (s := { s with peers := aged }) listening timer

/-- Settles O50: the two timer events by the station's state and the time left. -/
theorem ticksAgeAndBeacon : Obligations.TicksAgeAndBeacon := by
  intro s idle aged joined
  have ages : s.agePeers = { s with peers := aged } := State.agePeers_eq s
  have joins (empty : s.link.tx = none) : s.agePeers.endListening = joined := by
    rw [ages]
    exact State.endListening_eq empty aged
  refine ⟨fun left listening timer empty => ?_, fun period runs => ?_, execBeaconPeriodTick_of_stopped idle,
    execListenTimerExpiry_of_station idle⟩
  · rw [execListenTimerExpiry_of_running idle listening timer, joins empty]
  have ticks : exec .beaconPeriodTick s = .next (State.tickEffect { s with peers := aged }) := by
    rw [execBeaconPeriodTick_of_running idle runs, ages]
  have listens (left : Nat) (listening : s.controller.station = .listening)
      (timer : s.controller.listenTimer = some left) :=
    ticks.trans (congrArg Host.Outcome.next (State.tickEffect_of_listening_aged listening timer aged))
  refine ⟨fun active => ?_, fun l quiet => ?_, fun leaving => ?_, fun left listening timer longer => ?_,
    fun left listening timer ended empty => ?_⟩
  · rw [ticks, State.tickEffect, active]
  · rw [ticks, State.tickEffect, quiet]
  · rw [ticks, State.tickEffect, leaving]
  · exact (listens left listening timer).trans (congrArg _ (if_neg (Nat.not_le.2 longer)))
  · rw [listens left listening timer, ← joins empty, ages]
    exact congrArg _ (if_pos ended)

end Sys2Proof.Machine
end

section
/-! The target bus: the end of a run and the terminations of its attempts. -/

namespace Sys2Proof.Machine

variable {s : State} {j : EntryNo}

/-! ### The end of a run -/

/-- The answer of a result, its code, cause, count and data each by the result and the operation (R70). -/
theorem State.resultAnswer_eq (s : State) (c : Context) (r : RunResult) :
    s.resultAnswer c r =
      { destination := c.requester, source := s.own, tag := c.tag, generation := c.generation, offset := c.offset,
        code := match r with
          | .taken _ => .taken
          | .refused _ => .refused
        cause := match r with
          | .taken _ => 0
          | .refused cause => BitVec.ofNat 4 cause.code
        count := match r with
          | .taken n => BitVec.ofNat 8 n
          | .refused _ => 0
        data := match r, c.op with
          | .taken n, .read => c.data.toList.take n
          | _, _ => [] } := by
  cases r with
  | refused cause => rfl
  | taken n =>
    unfold State.resultAnswer
    cases c.op <;> rfl

/-- A run that ends hands its result to the responder's context by the orphan mark and the owed answer (R88, R92). -/
theorem State.endRun_of_unowed {r : RunResult} (clear : (s.context j).orphan = .clear)
    (unowed : (s.context j).answerOwed = false) :
    s.endRun j r = (s.idleUnit.setContext j { s.context j with state := .ready r s.cl }).checkLeaving := by
  have same : s.idleUnit.context j = s.context j := rfl
  simp only [State.endRun, State.cyclesEnd, same, clear, unowed]
  rfl

theorem State.endRun_of_owed {r : RunResult} (clear : (s.context j).orphan = .clear)
    (owed : (s.context j).answerOwed = true) :
    s.endRun j r = ((s.idleUnit.onResponder fun q => { q with holdTimer := none }).answerStored j r).checkLeaving := by
  have same : s.idleUnit.context j = s.context j := rfl
  simp only [State.endRun, State.cyclesEnd, same, clear, owed]
  rfl

theorem State.endRun_of_replaced {r : RunResult} (replaced : (s.context j).orphan = .replaced) :
    s.endRun j r = ((s.idleUnit.postDropped j .replaced).freeContext j).checkLeaving := by
  have same : s.idleUnit.context j = s.context j := rfl
  simp only [State.endRun, State.cyclesEnd, same, replaced]

theorem State.endRun_of_isolated {r : RunResult} (isolated : (s.context j).orphan = .isolated) :
    s.endRun j r = (s.idleUnit.freeContext j).checkLeaving := by
  have same : s.idleUnit.context j = s.context j := rfl
  simp only [State.endRun, State.cyclesEnd, same, isolated]

/-- Settles O54: the end of a run by the orphan mark and the owed answer of its context. -/
theorem runsHandTheirResultOver : Obligations.RunsHandTheirResultOver := by
  intro s j r c idle freed
  refine ⟨fun clear unowed => ?_, fun clear owed => ?_, fun replaced => ?_, fun isolated => ?_⟩
  · exact State.endRun_of_unowed clear unowed
  · rw [State.endRun_of_owed clear owed, State.answerStored_eq, State.resultAnswer_eq]
    rfl
  · exact State.endRun_of_replaced replaced
  · exact State.endRun_of_isolated isolated

/-! ### Terminations -/

/-- A width code other than 0 names its power of two (R117). -/
theorem widthOf_of_ne_zero : ∀ code : BitVec 2, code ≠ 0 → widthOf code = some (2 ^ (code.toNat - 1)) := by
  decide

theorem terminationKind_of_error {sig : Termination}
    (error : sig.terr = true ∨ (sig.trty = false ∧ sig.tack = some 0)) : terminationKind sig = some .error := by
  unfold terminationKind
  rcases error with terr | ⟨noRetry, unnamed⟩
  · rw [if_pos terr]
  · rw [noRetry, unnamed]
    exact ite_self _

theorem terminationKind_of_retry {sig : Termination} (noError : sig.terr = false) (retry : sig.trty = true) :
    terminationKind sig = some .retry := by
  unfold terminationKind
  rw [noError, retry]
  rfl

theorem terminationKind_of_acknowledge {sig : Termination} {code : BitVec 2} (noError : sig.terr = false)
    (noRetry : sig.trty = false) (tack : sig.tack = some code) (named : code ≠ 0) :
    terminationKind sig = some (.acknowledge (2 ^ (code.toNat - 1))) := by
  unfold terminationKind
  simp only [noError, noRetry, tack, widthOf_of_ne_zero code named]
  rfl

/-- A termination acts on the running attempt, its strobes negated (R116). -/
theorem execTargetTermination_of_attempt {sig : Termination} {n : Nat} {h : HeldWindow} {y : Cycle}
    {k : TerminationKind} (waits : s.target.monitor = .termination n) (current : s.target.current = some j)
    (held : s.target.held = some h) (cycle : s.target.cycle = some y) (kind : terminationKind sig = some k) :
    exec (.targetTermination sig) s = .next (s.idlePins.actOn j h y sig.data k) := by
  simp only [exec, execTargetTermination, waits, current, held, cycle, kind]

/-- With no attempt running a termination is not taken (R116). -/
theorem execTargetTermination_of_unattempted {sig : Termination} (none : ∀ n, s.target.monitor ≠ .termination n) :
    exec (.targetTermination sig) s = .next s := by
  simp only [exec, execTargetTermination]
  split
  · rename_i n _ _ _ _ waits _ _ _ _
    exact absurd waits (none n)
  · rfl

/-- The state in which the unit waits for the withdrawal of a termination, its outputs at rest (R116, R120). -/
def State.atRest (s : State) (goesOn : Bool) : State :=
  { s with target := { s.target with
      monitor := .withdrawal s.tw goesOn
      pins := { s.target.pins with strobe := false, lanes := Vector.replicate 4 none } } }

/-- An acknowledge counts its bytes, and a READ collects them from the cycle's lanes (R117). -/
theorem Context.acknowledged_eq (c : Context) (y : Cycle) (m : Nat) (data : BitVec 32) :
    c.acknowledged y m data =
      { c with
        bytesMoved := c.bytesMoved + m
        writePerformed := c.writePerformed || y.write
        data := Vector.ofFn fun k =>
          if y.write = false ∧ c.bytesMoved ≤ k.val ∧ k.val < c.bytesMoved + m then
            BitVec.ofNat 8 (data.toNat / 2 ^ (8 * (y.address.toNat % 4 + (k.val - c.bytesMoved))))
          else c.data[k] } := by
  unfold Context.acknowledged
  cases y.write with
  | false => simp [collected, laneByte]
  | true =>
    simp

/-- What an acknowledge makes of the context, and the unit's wait for its withdrawal (R117, R120). -/
def State.movedOn (s : State) (j : EntryNo) (c : Context) (goesOn : Bool) : State :=
  { s.atRest goesOn with
    responder := { s.responder with contexts := s.responder.contexts.set j c }
    target := { (s.atRest goesOn).target with cycle := none, retryCount := 0 } }

/-- An acknowledge goes on in a burst with bytes left, and ends the run TAKEN otherwise (R117, R121). -/
theorem State.takeAcknowledge_idlePins (s : State) (j : EntryNo) (h : HeldWindow) (y : Cycle) (w : Nat) (data : BitVec 32) :
    s.idlePins.takeAcknowledge j h y w data =
      let c := (s.context j).acknowledged y (min y.size w) data
      if h.burst ∧ c.bytesMoved < c.lengthInWindow then s.movedOn j c true
      else (s.movedOn j c false).endRun j (.taken c.bytesMoved) := rfl

/-- Settles O53: a termination by the attempt it ends, by what it counts as, and by the retry limit or the bytes left. -/
theorem terminationsTakeTheirCourses : Obligations.TerminationsTakeTheirCourses := by
  intro s sig
  refine ⟨execTargetTermination_of_unattempted, fun n j h y waits current held cycle => ?_⟩
  intro c quiet waiting failed
  have acts (k : TerminationKind) := execTargetTermination_of_attempt (sig := sig) (k := k) waits current held cycle
  refine ⟨fun error => ?_, fun noError retry exceeded => ?_, fun noError retry within => ?_,
    fun code noError noRetry tack named => ?_⟩
  · rw [acts .error (terminationKind_of_error error)]
    rfl
  · rw [acts .retry (terminationKind_of_retry noError retry)]
    exact congrArg _ (if_pos exceeded)
  · rw [acts .retry (terminationKind_of_retry noError retry)]
    exact congrArg _ (if_neg (Nat.not_lt.2 within))
  · intro m c' moved
    have taken := (acts _ (terminationKind_of_acknowledge noError noRetry tack named)).trans
      (congrArg Host.Outcome.next (State.takeAcknowledge_idlePins s j h y (2 ^ (code.toNat - 1)) sig.data))
    dsimp only at taken
    rw [Context.acknowledged_eq] at taken
    refine ⟨fun burst left => ?_, fun ended => ?_⟩
    · exact taken.trans (congrArg _ (if_pos ⟨burst, left⟩))
    · refine taken.trans (congrArg _ (if_neg fun goesOn => ?_))
      rcases ended with single | full
      · exact absurd goesOn.1 (by simp [single])
      · exact absurd goesOn.2 (Nat.not_lt.2 full)

end Sys2Proof.Machine
end

end

section

/-! SUPPORT. Answers heard: the slot an ANSWER reaches, the courses of HELD, BUSY and REFUSED, and the bytes TAKEN brings, with the proofs of their
statements. -/

set_option Elab.async false

section
/-! ANSWERS heard: how they reach the slot that waits for one, and the courses HELD, BUSY and REFUSED take. -/

namespace Sys2Proof.Machine

variable {s : State} {i : Tag} {a : Answer}

/-! ### The close of an exchange, by its ending -/

/-- The ending an exchange in flight is marked with, the abort mark before the deferred ending (R36). -/
def Slot.ending (x : Slot) : Option Status := if x.abortMark then some .aborted else x.deferred.map Deferred.status

theorem Slot.ending_eq_none {x : Slot} (h : x.ending = none) : x.abortMark = false ∧ x.deferred = none := by
  unfold Slot.ending at h
  split at h
  · exact absurd h (by simp)
  · rename_i unmarked
    exact ⟨Bool.eq_false_iff.2 unmarked, Option.map_eq_none_iff.1 h⟩

/-- With bytes still to move, a marked exchange ends with its ending (R36). -/
theorem State.closeExchange_of_ending {c : Course} {st : Status}
    (incomplete : (s.slot i).bytesDone ≠ (s.slot i).descriptor.length) (ending : (s.slot i).ending = some st) :
    s.closeExchange i c = s.endSlot i st := by
  rw [State.closeExchange, if_neg incomplete]
  unfold Slot.ending at ending
  split
  · rename_i marked
    rw [if_pos marked] at ending
    rw [Option.some.inj ending]
  · rename_i unmarked
    rw [if_neg unmarked] at ending
    obtain ⟨d, deferred, rfl⟩ := Option.map_eq_some_iff.1 ending
    rw [deferred]

/-- With neither mark nor deferred ending it takes the course of the outcome (R36). -/
theorem State.closeExchange_of_unending {c : Course}
    (incomplete : (s.slot i).bytesDone ≠ (s.slot i).descriptor.length) (unending : (s.slot i).ending = none) :
    s.closeExchange i c = s.takeCourse i c :=
  State.closeExchange_of_unmarked c incomplete (Slot.ending_eq_none unending).1 (Slot.ending_eq_none unending).2

section
variable {y : Slot} (incomplete : y.bytesDone ≠ y.descriptor.length)
include incomplete

/-- The exchange of a slot that its outcome has just written, marked with an ending. -/
theorem State.slot_closeExchange_setSlot_of_ending {c : Course} {st : Status} (ending : y.ending = some st) :
    ((s.setSlot i y).closeExchange i c).slot i = { y with state := .done st s.requester.doneNext } := by
  have ends : (s.setSlot i y).closeExchange i c = (s.setSlot i y).endSlot i st := by
    apply State.closeExchange_of_ending <;> rwa [State.slot_setSlot_self]
  rw [ends, State.endSlot_slot_self, State.slot_setSlot_self]
  rfl

theorem State.closeExchange_setSlot_of_wait {n : Nat} (unending : y.ending = none) :
    (s.setSlot i y).closeExchange i (.wait n) = s.setSlot i { y with state := .backoff n } := by
  have takes : (s.setSlot i y).closeExchange i (.wait n) = (s.setSlot i y).takeCourse i (.wait n) := by
    apply State.closeExchange_of_unending <;> rwa [State.slot_setSlot_self]
  rw [takes, State.takeCourse, State.setSlot_setSlotState]

theorem State.slot_closeExchange_setSlot_of_finish {st : Status} (unending : y.ending = none) :
    ((s.setSlot i y).closeExchange i (.finish st)).slot i = { y with state := .done st s.requester.doneNext } := by
  have takes : (s.setSlot i y).closeExchange i (.finish st) = (s.setSlot i y).takeCourse i (.finish st) := by
    apply State.closeExchange_of_unending <;> rwa [State.slot_setSlot_self]
  rw [takes, State.takeCourse, State.endSlot_slot_self, State.slot_setSlot_self]
  rfl

end

/-! ### HELD, BUSY and REFUSED -/

/-- The slot a HELD answer leaves before the close (R50). -/
def Slot.heldOnce (x : Slot) (limit : Nat) : Slot :=
  { x with
    heldCount := x.heldCount + 1, firstFlag := false
    lastCause := if limit < x.heldCount + 1 then some .heldLimit else x.lastCause }

/-- The slot a BUSY answer leaves before the close (R51). -/
def Slot.busyOnce (x : Slot) (limit : Nat) : Slot :=
  { x with
    busyCount := x.busyCount + 1
    lastCause := if limit < x.busyCount + 1 then some .busyLimit else x.lastCause }

theorem State.applyAnswer_of_held (held : a.code = .held) :
    s.applyAnswer i a =
      (s.setSlot i ((s.slot i).heldOnce s.hl)).closeExchange i
        (if s.hl < (s.slot i).heldCount + 1 then .finish .peerHeldLimit else .wait s.hi) := by
  simp only [State.applyAnswer, held, State.applyHeld, decide_eq_true_eq]
  rfl

theorem State.applyAnswer_of_busy (busy : a.code = .busy) :
    s.applyAnswer i a =
      (s.setSlot i ((s.slot i).busyOnce s.bl)).closeExchange i
        (if s.bl < (s.slot i).busyCount + 1 then .finish .peerBusy
         else .wait (s.bb * 2 ^ (min ((s.slot i).busyCount + 1) 6 - 1))) := by
  simp only [State.applyAnswer, busy, State.applyBusy, decide_eq_true_eq]
  rfl

/-- A cause field names its cause, and one not assigned MALFORMED (R52). -/
theorem causeOf_eq {code : BitVec 4} {c : Cause}
    (h : code.toNat = c.code ∨ c = .malformed ∧ (code.toNat = 0 ∨ 9 ≤ code.toNat)) : causeOf code = c := by
  revert h
  cases c <;> revert code <;> decide

theorem State.applyAnswer_of_refused {c : Cause} (refused : a.code = .refused) (cause : causeOf a.cause = c) :
    s.applyAnswer i a =
      (s.setSlot i { s.slot i with lastCause := some (.refusal c) }).closeExchange i (.finish (.refused c)) := by
  simp only [State.applyAnswer, refused, cause, State.applyRefused]

/-! ### An ANSWER reaches its slot -/

/-- An ANSWER matches a slot by its fields, its count and its data (R33). -/
theorem State.answerMatches_iff :
    s.answerMatches a i = true ↔
      a.destination = s.own ∧ a.source = (s.slot i).descriptor.destination ∧ a.tag = i ∧
        a.generation = (s.slot i).generation ∧ a.offset.toNat = (s.slot i).bytesDone ∧
        (a.code = .taken →
          1 ≤ a.count.toNat ∧ a.count.toNat ≤ (s.slot i).offered.getD 0 ∧
            a.data.length = if (s.slot i).descriptor.kind = .read then a.count.toNat else 0) ∧
        (a.code ≠ .taken → a.count = 0 ∧ a.data = []) := by
  have fits : a.fits (s.slot i) = true ↔
      (a.code = .taken →
        1 ≤ a.count.toNat ∧ a.count.toNat ≤ (s.slot i).offered.getD 0 ∧
          a.data.length = if (s.slot i).descriptor.kind = .read then a.count.toNat else 0) ∧
      (a.code ≠ .taken → a.count = 0 ∧ a.data = []) := by
    unfold Answer.fits
    cases a.code with
    | taken => cases (s.slot i).descriptor.kind <;> simp [and_assoc]
    | held => simp
    | busy => simp
    | refused => simp
  simp only [State.answerMatches, Bool.and_eq_true, beq_iff_eq, fits, and_assoc]

/-- The state an ANSWER heard is delivered in, the record of its source PRESENT again if it was gone (R130, R149). -/
def State.answerHeard (s : State) (d : StationNo) : State :=
  let returns : Bool := (s.peer d).state = .absent ∨ (s.peer d).state = .silent
  { s with
    link := { s.link with medium := .gap, gap := .ordinary }
    peers := s.peers.set d
      { s.peer d with silenceCount := 0, state := if returns then .present else (s.peer d).state }
    notices :=
      if returns then (s.post { kind := .peerUp, station := d, detail := .number 0 }).notices else s.notices }

/-- The same at the end of a reply slot, which ends the reservation (R131). -/
def State.replyHeard (s : State) (d : StationNo) : State :=
  { s.answerHeard d with
    link := { (s.answerHeard d).link with answer := none, answerBegun := false }
    responder := { s.responder with
      contexts := Vector.ofFn fun j => { s.context j with answerOwed := false }, holdTimer := none } }

theorem State.deliverFrame_answer (s : State) (a : Answer) (replySlot : Bool) :
    s.deliverFrame (.answer a) replySlot =
      if replySlot = true ∧ a.destination = s.own then (s.hearFrame a.source).deliverAnswer a
      else s.hearFrame a.source := rfl

section
variable {h : Heard} (idle : s.nothingDue) (medium : s.link.medium = .receiving) (head : s.link.followTail = false)
  (other : a.source ≠ s.own) (peer : (s.peer a.source).state ≠ .self)
include idle medium head other peer

/-- In the late-reply gap an ANSWER reaches no slot (R131). -/
theorem execFrameReceived_of_lateReply (layout : s.link.layout = .lateReply)
    (good : readFrame .lateReply h = .good (.answer a)) :
    exec (.frameReceived h) s = .next (s.answerHeard a.source).checkLeaving := by
  have hears : (s.enterGap .ordinary).hearFrame a.source = s.answerHeard a.source :=
    State.hearFrame_eq (s := s.enterGap .ordinary) peer
  refine (execFrameReceived_of_head idle (State.hearing_iff.2 (.inl medium)) head).trans ?_
  rw [State.receive_of_good (f := .answer a) (layout ▸ good) other, State.endHeard_of_lateReply layout, layout,
    State.deliverFrame_answer, hears]
  exact congrArg (fun t : State => Host.Outcome.next t.checkLeaving) (if_neg fun reply => absurd reply.1 (by decide))

/-- In the reply slot it is delivered to the requester when it is for this station (R131, R139). -/
theorem execFrameReceived_of_replySlot (layout : s.link.layout = .replySlot)
    (good : readFrame .replySlot h = .good (.answer a)) :
    exec (.frameReceived h) s =
      .next (if a.destination = s.own then (s.replyHeard a.source).deliverAnswer a
        else s.replyHeard a.source).checkLeaving := by
  have hears : (s.enterGap .ordinary).endReservation.hearFrame a.source = s.replyHeard a.source :=
    State.hearFrame_eq (s := (s.enterGap .ordinary).endReservation) peer
  refine (execFrameReceived_of_head idle (State.hearing_iff.2 (.inl medium)) head).trans ?_
  rw [State.receive_of_good (f := .answer a) (layout ▸ good) other, State.endHeard_of_replySlot layout, layout,
    State.deliverFrame_answer, hears]
  refine congrArg (fun t : State => Host.Outcome.next t.checkLeaving) ?_
  by_cases mine : a.destination = s.own
  · rw [if_pos mine]
    exact if_pos ⟨rfl, mine⟩
  · rw [if_neg mine]
    exact if_neg fun both => mine both.2

end

/-- With one slot AWAITING it is the one an ANSWER is delivered to, when it matches (R33, R34). -/
theorem State.deliverAnswer_of_matching (awaiting : (s.slot i).state.isAwaiting = true)
    (only : ∀ j, j ≠ i → (s.slot j).state.isAwaiting = false) (matched : s.answerMatches a i = true) :
    s.deliverAnswer a = s.applyAnswer i a := by
  have found : s.awaitingSlot = some i := lowestOf_eq_some_of_least awaiting fun j hj => only j (ne_of_lt hj)
  rw [State.deliverAnswer, found]
  exact if_pos matched

/-- An ANSWER that matches no AWAITING slot is ignored (R34). -/
theorem State.deliverAnswer_of_unmatched
    (unmatched : ∀ j, (s.slot j).state.isAwaiting = true → s.answerMatches a j = false) : s.deliverAnswer a = s := by
  unfold State.deliverAnswer
  split
  · rename_i j found
    rw [unmatched j (lowestOf_eq_some found).1]
    rfl
  · rfl

/-- Settles O31: which slot an ANSWER reaches, by the layout and the match, and the course of each code that moves no byte, by the
limit and the slot's marks. -/
theorem heldBusyAndRefusedTakeTheirCourses : Obligations.HeldBusyAndRefusedTakeTheirCourses := by
  refine ⟨fun s h a idle medium head contended good other peer => ?_, fun s i a incomplete => ?_⟩
  · intro returns heard closed matching
    have matches_iff (i : Tag) : (s.replyHeard a.source).answerMatches a i = true ↔ matching i := State.answerMatches_iff
    refine ⟨fun layout => ?_, fun layout unmatched => ?_, fun i layout awaiting only matched => ?_⟩
    · exact execFrameReceived_of_lateReply idle medium head other peer layout (layout ▸ good)
    · have ignored : (s.replyHeard a.source).deliverAnswer a = s.replyHeard a.source :=
        State.deliverAnswer_of_unmatched fun j waits => Bool.eq_false_iff.2 (mt (matches_iff j).1 (unmatched j waits))
      rw [execFrameReceived_of_replySlot idle medium head other peer layout (layout ▸ good), ignored, ite_self]
      rfl
    · rw [execFrameReceived_of_replySlot idle medium head other peer layout (layout ▸ good), if_pos matched.1,
        State.deliverAnswer_of_matching (s := s.replyHeard a.source) awaiting only ((matches_iff i).2 matched)]
      rfl
  · intro x forced closes
    have endings : forced = x.ending := rfl
    have held (code : a.code = .held) := State.applyAnswer_of_held (s := s) (i := i) code
    have busy (code : a.code = .busy) := State.applyAnswer_of_busy (s := s) (i := i) code
    have refused (c : Cause) (code : a.code = .refused) (cause) :=
      State.applyAnswer_of_refused (s := s) (i := i) code (causeOf_eq (c := c) cause)
    rw [endings]
    refine ⟨fun code => ⟨held code, fun st e => ?_⟩, fun code => ⟨busy code, fun st e => ?_⟩,
      fun c code cause => ⟨refused c code cause, fun st e => ?_⟩, fun unforced => ?_⟩
    · rw [held code]
      exact State.slot_closeExchange_setSlot_of_ending (y := x.heldOnce s.hl) incomplete e
    · rw [busy code]
      exact State.slot_closeExchange_setSlot_of_ending (y := x.busyOnce s.bl) incomplete e
    · rw [refused c code cause]
      exact State.slot_closeExchange_setSlot_of_ending (y := { x with lastCause := some (.refusal c) }) incomplete e
    · refine ⟨fun code within => ?_, fun code passed => ?_, fun code within => ?_, fun code passed => ?_,
        fun c code cause => ?_⟩
      · rw [held code, if_neg (Nat.not_lt.2 within),
          State.closeExchange_setSlot_of_wait (y := x.heldOnce s.hl) incomplete unforced, Slot.heldOnce,
          if_neg (Nat.not_lt.2 within)]
      · rw [held code, if_pos passed,
          State.slot_closeExchange_setSlot_of_finish (y := x.heldOnce s.hl) incomplete unforced, Slot.heldOnce, if_pos passed]
      · rw [busy code, if_neg (Nat.not_lt.2 within),
          State.closeExchange_setSlot_of_wait (y := x.busyOnce s.bl) incomplete unforced, Slot.busyOnce,
          if_neg (Nat.not_lt.2 within)]
      · rw [busy code, if_pos passed,
          State.slot_closeExchange_setSlot_of_finish (y := x.busyOnce s.bl) incomplete unforced, Slot.busyOnce, if_pos passed]
      · rw [refused c code cause]
        exact State.slot_closeExchange_setSlot_of_finish (y := { x with lastCause := some (.refusal c) }) incomplete unforced

end Sys2Proof.Machine
end

section
/-! The TAKEN answer: its bytes reach staging memory, and the exchange closes at the new offset. -/

namespace Sys2Proof.Machine

variable {s t : State} {i : Tag} {a : Answer}

/-! ### What the close of an exchange changes -/

/-- What an operation on slot `i` leaves besides it: only BEHIND slots of its destination change, and the done order goes on by the
slots that have become DONE (R41, R42). -/
structure Settled (i : Tag) (s t : State) : Prop where
  frame   : t = { s with requester := { s.requester with slots := t.requester.slots, doneNext := t.requester.doneNext } }
  others  : ∀ j, j ≠ i →
    (s.slot j).state ≠ .behind ∨ (s.slot j).descriptor.destination ≠ (s.slot i).descriptor.destination → t.slot j = s.slot j
  counted : t.requester.doneNext =
    s.requester.doneNext + (List.finRange 8).countP fun j => (t.slot j).state.isDone && !(s.slot j).state.isDone

theorem Settled.endSlot {st : Status} (undone : (s.slot i).state.isDone = false) : Settled i s (s.endSlot i st) where
  frame := s.endSlot_eq_requester i st
  others _ := State.endSlot_slot_other
  counted := State.endSlot_doneNext undone

theorem Settled.setSlot {y : Slot} (undone : y.state.isDone = false) : Settled i s (s.setSlot i y) where
  frame := rfl
  others j hj _ := by rw [State.slot_setSlot, if_neg hj]
  counted := by
    rw [countP_done_of_none]
    · rfl
    · intro j done
      rw [State.slot_setSlot] at done
      split at done
      · exact absurd done (by simp [undone])
      · exact done

/-- A slot written with no change of its destination and then settled. -/
theorem Settled.of_setSlot {y : Slot} (undone : y.state.isDone = (s.slot i).state.isDone)
    (destination : y.descriptor.destination = (s.slot i).descriptor.destination) (h : Settled i (s.setSlot i y) t) :
    Settled i s t where
  frame := h.frame.trans rfl
  others j hj apart := by
    have same : (s.setSlot i y).slot j = s.slot j := by rw [State.slot_setSlot, if_neg hj]
    rw [h.others j hj (by rwa [same, State.slot_setSlot_self, destination]), same]
  counted := by
    have next : (s.setSlot i y).requester.doneNext = s.requester.doneNext := rfl
    rw [h.counted, next]
    refine congrArg _ (List.countP_congr fun j _ => ?_)
    rw [State.slot_setSlot]
    split
    · rename_i hj
      rw [hj, undone]
    · rfl

theorem Settled.placeSlot (undone : (s.slot i).state.isDone = false) : Settled i s (s.placeSlot i) := by
  unfold State.placeSlot
  split
  · exact Settled.setSlot rfl
  · exact Settled.setSlot rfl
  · exact Settled.endSlot undone

theorem Settled.closeExchange (undone : (s.slot i).state.isDone = false) (c : Course) :
    Settled i s (s.closeExchange i c) := by
  have course : Settled i s (s.takeCourse i c) := by
    cases c with
    | place => exact Settled.placeSlot undone
    | advance =>
      refine Settled.of_setSlot (y := { s.slot i with firstFlag := true }) rfl rfl (Settled.placeSlot ?_)
      rw [State.slot_setSlot_self]
      exact undone
    | wait n => exact Settled.setSlot rfl
    | finish st => exact Settled.endSlot undone
  unfold State.closeExchange
  split
  · exact Settled.endSlot undone
  · split
    · exact Settled.endSlot undone
    · split
      · exact Settled.endSlot undone
      · exact course

/-! ### The slot at the close -/

theorem State.slot_closeExchange_of_complete {c : Course}
    (complete : (s.slot i).bytesDone = (s.slot i).descriptor.length) :
    (s.closeExchange i c).slot i = { s.slot i with state := .done .ok s.requester.doneNext } := by
  rw [State.closeExchange, if_pos complete, State.endSlot_slot_self]

theorem State.slot_closeExchange_of_ending {c : Course} {st : Status}
    (incomplete : (s.slot i).bytesDone ≠ (s.slot i).descriptor.length) (ending : (s.slot i).ending = some st) :
    (s.closeExchange i c).slot i = { s.slot i with state := .done st s.requester.doneNext } := by
  rw [State.closeExchange_of_ending incomplete ending, State.endSlot_slot_self]

/-- A slot that goes on is placed by its destination's record, its first flag set (R39). -/
theorem State.slot_closeExchange_of_advance {st : SlotState}
    (incomplete : (s.slot i).bytesDone ≠ (s.slot i).descriptor.length) (unending : (s.slot i).ending = none)
    (record : match (s.peer (s.slot i).descriptor.destination).state with
      | .present => st = .ready
      | .quiet l => st = if (s.slot i).descriptor.urgency ≤ l then .parked else .ready
      | _ => False) :
    (s.closeExchange i .advance).slot i = { s.slot i with state := st, firstFlag := true } := by
  have placed : (s.setSlot i { s.slot i with firstFlag := true }).placeSlot i =
      (s.setSlot i { s.slot i with firstFlag := true }).setSlotState i st :=
    State.placeSlot_of_record (by rw [State.slot_setSlot_self]; exact record)
  rw [State.closeExchange_of_unending incomplete unending, State.takeCourse, placed, State.setSlot_setSlotState,
    State.slot_setSlot_self]

/-! ### TAKEN -/

/-- The slot a TAKEN answer of `n` bytes leaves before the close (R38). -/
def Slot.takenOn (x : Slot) (n : Nat) : Slot :=
  { x with bytesDone := x.bytesDone + n, busyCount := 0, heldCount := 0, noAnswerCount := 0, sentHere := false }

/-- Staging memory once a TAKEN answer's bytes are stored: those of a READ (R37). -/
def State.stagingTaken (s : State) (i : Tag) (a : Answer) : Memory :=
  if (s.slot i).descriptor.kind = .read then
    Memory.storeBytes s.staging ((s.slot i).descriptor.stagingOffset + (s.slot i).bytesDone) a.data
  else s.staging

/-- The state a TAKEN answer leaves for the close of its exchange (R37, R38). -/
def State.takenApplied (s : State) (i : Tag) (a : Answer) : State :=
  (s.setStaging (s.stagingTaken i a)).setSlot i ((s.slot i).takenOn a.count.toNat)

theorem State.applyAnswer_of_taken (code : a.code = .taken) :
    s.applyAnswer i a = (s.takenApplied i a).closeExchange i .advance := by
  simp only [State.applyAnswer, code, State.applyTaken, State.takenApplied, State.stagingTaken]
  cases (s.slot i).descriptor.kind <;> rfl

theorem State.slot_takenApplied_self : (s.takenApplied i a).slot i = (s.slot i).takenOn a.count.toNat :=
  State.slot_setSlot_self ..

theorem State.slot_takenApplied_other {j : Tag} (hj : j ≠ i) : (s.takenApplied i a).slot j = s.slot j :=
  (State.slot_setSlot ..).trans (if_neg hj)

/-- Staging memory after a TAKEN answer reads as before, but for a READ's bytes (R37). -/
theorem State.read_stagingTaken (canonical : s.stagingCanonical)
    (inside : (s.slot i).descriptor.stagingOffset + (s.slot i).bytesDone + a.count.toNat ≤ 8192)
    (length : (s.slot i).descriptor.kind = .read → a.data.length = a.count.toNat) (y : Nat) :
    Memory.read (s.stagingTaken i a) y =
      if (s.slot i).descriptor.kind = .read ∧ (s.slot i).descriptor.stagingOffset + (s.slot i).bytesDone ≤ y ∧
          y < (s.slot i).descriptor.stagingOffset + (s.slot i).bytesDone + a.count.toNat then
        a.data.getD (y - ((s.slot i).descriptor.stagingOffset + (s.slot i).bytesDone)) 0
      else Memory.read s.staging y := by
  unfold State.stagingTaken
  by_cases read : (s.slot i).descriptor.kind = .read
  · have size : Config.stagingSize = 8192 := rfl
    rw [if_pos read, Memory.read_storeBytes canonical, length read]
    refine if_congr ⟨fun ⟨start, limit, _⟩ => ⟨read, start, limit⟩, fun ⟨_, start, limit⟩ => ⟨start, limit, ?_⟩⟩ rfl rfl
    omega
  · rw [if_neg read, if_neg fun all => read all.1]

/-- Settles O32: the answer reaches the slot it matches, its bytes are stored, and the close is the three endings of `closeExchange`
or the placement by the source's record. -/
theorem takenReadDataReachesStaging : Obligations.TakenReadDataReachesStaging := by
  intro s h a i n offered idle canonical medium layout head good awaiting only code mine other source tag generation
    offset offers least most carries inside peer x start done returns record forced taken
  have waits : (s.slot i).state.isAwaiting = true := by rw [awaiting]; rfl
  have length (read : x.descriptor.kind = .read) : a.data.length = a.count.toNat := by
    rcases carries with ⟨-, length⟩ | ⟨write, -⟩
    · exact length
    · exact absurd (read.symm.trans write) (by decide)
  have bytes : a.data.length = if x.descriptor.kind = .read then a.count.toNat else 0 := by
    rcases carries with ⟨read, length⟩ | ⟨write, empty⟩
    · rw [if_pos read, length]
    · rw [if_neg (by simp [x, write]), empty, List.length_nil]
  have matched : (s.replyHeard a.source).answerMatches a i = true := by
    refine State.answerMatches_iff.2 ⟨mine, source, tag, generation, offset, fun _ => ⟨least, ?_, bytes⟩, absurd code⟩
    exact most.trans_eq (congrArg (Option.getD · 0) offers).symm
  refine ⟨s.stagingTaken i a, State.read_stagingTaken canonical inside length, fun write => ?_, ?_⟩
  · exact if_neg fun read => absurd (read.symm.trans write) (by decide)
  intro applied t
  have same : applied = (s.replyHeard a.source).takenApplied i a := rfl
  have self : applied.slot i = taken := State.slot_takenApplied_self (s := s.replyHeard a.source)
  have others {j : Tag} (hj : j ≠ i) : applied.slot j = s.slot j :=
    State.slot_takenApplied_other (s := s.replyHeard a.source) hj
  have settled : Settled i applied t := Settled.closeExchange (by rw [self]; exact congrArg SlotState.isDone awaiting) _
  have completed : (applied.slot i).bytesDone = (applied.slot i).descriptor.length ↔ done = x.descriptor.length := by
    rw [self]
  have ending : (applied.slot i).ending = forced := by rw [self]; rfl
  have placedBy : (applied.peer (applied.slot i).descriptor.destination).state = record := by
    rw [self, ← source]
    exact congrArg PeerRecord.state (Vector.getElem_set_self ..)
  refine ⟨?_, settled.frame, fun complete => ?_, fun incomplete st marked => ?_, fun incomplete unmarked present => ?_,
    fun l incomplete unmarked quiet => ?_, fun j hj apart => ?_, ?_⟩
  · rw [execFrameReceived_of_replySlot idle medium head other peer layout good, if_pos mine,
      State.deliverAnswer_of_matching (s := s.replyHeard a.source) waits only matched, State.applyAnswer_of_taken code,
      ← same]
  · rw [State.slot_closeExchange_of_complete (completed.2 complete), self]
  · rw [State.slot_closeExchange_of_ending (mt completed.1 incomplete) (ending.trans marked), self]
  · have ready := State.slot_closeExchange_of_advance (st := .ready) (mt completed.1 incomplete) (ending.trans unmarked)
      (by rw [placedBy, present])
    rw [ready, self]
  · have placed := State.slot_closeExchange_of_advance (st := if x.descriptor.urgency ≤ l then .parked else .ready)
      (mt completed.1 incomplete) (ending.trans unmarked) (by rw [placedBy, quiet, self])
    rw [placed, self]
  · rw [settled.others j hj (by rwa [others hj, self, ← source]), others hj]
  · refine settled.counted.trans (congrArg _ (List.countP_congr fun j _ => ?_))
    by_cases hj : j = i
    · rw [hj, self]
    · rw [others hj]

end Sys2Proof.Machine
end

end
